-- ==== Sys2Proof/Word.lean ====
section
/-! DEFINITION. The plain types of the M-Processor: 64-bit registers and addresses, bytes of memory, and
register numbers (R3, R5, R20, R61). -/

namespace Sys2Proof

/-- A 64-bit register, address or double word (R3, R20, R60). -/
abbrev Word := BitVec 64

/-- A byte is 8 bits (R3, R61). -/
abbrev Byte := BitVec 8

/-- The number of a general, exception or counter register: 0 to 31 (R3). A five-bit field holds it. -/
abbrev Reg := Fin 32

end Sys2Proof
end

