-- ==== Sys2Proof/Config.lean ====
section
/-! DEFINITION. What the specification leaves to an implementation (R4 and spec/92_eei_decisions.md): the parameters with the
defaults that the specification names, and the free values, which have no body, so that nothing can be proved of them. The
parameters that a claim may want to vary (`ADDR_BITS`, `OP_NOP`, `fp`, `counter_impl`, `access_ok`, `irq`) are held in fields of
`Sys2Proof.Machine.State` that no instruction changes; here stand their types and their defaults. -/

namespace Sys2Proof.Config

/-- A value of the parameter `ADDR_BITS`: how many address bits the implementation has, 3 to 64 (R4, R25, D6; log entry 6). -/
structure AddrBits where
  /-- The number of bits. -/
  count : Nat
  /-- At least 3, so that the 8 bytes of a double-word have addresses of their own. -/
  atLeast : 3 ≤ count
  /-- No more than an address has. -/
  atMost : count ≤ 64
  deriving DecidableEq, Repr

/-- `ADDR_BITS` by default: 64, so that no bit is dropped (R4, R25, D6; log entry 6). -/
def addrBits : AddrBits := { count := 64, atLeast := by decide, atMost := by decide }

/-- The opcode numbers that no table of the source defines, among which `OP_NOP` must lie (R97). -/
def freeOpcodes : List (BitVec 6) :=
  [0, 1, 4, 5, 6, 7, 28, 29, 30, 31, 38, 39, 45, 46, 47, 48, 49, 50, 51, 52, 53, 54, 55, 56, 57, 58, 59, 62, 63]

/-- A value of the parameter `OP_NOP`: an opcode number that the source leaves undefined (R97, D2; log entry 2). The decoder and
the encoder take it as an argument. -/
structure NopCode where
  /-- The opcode number of NOP. -/
  code : BitVec 6
  /-- It is one of those left undefined (R97). -/
  isFree : code ∈ freeOpcodes
  deriving DecidableEq, Repr

/-- `OP_NOP` by default: 0, so that the all-zero word is a NOP (R4, R97, D2; log entry 2). -/
def opNop : NopCode := { code := 0, isFree := by decide }

/-- `counter_impl` by default: no counter is implemented beyond C0, C1, C4, C5 and C8 (R4, R42, D24; log entry 24). -/
def counterImpl : Vector Bool 32 := Vector.replicate 32 false

/-- `RESET_PC[63:2]`: the specification gives no default; the model names 0 (R500, D19; DESIGN CHOICE, log entry 19). -/
def resetPcAddr : BitVec 62 := 0

/-- `reset.EL`: 1, the supervisor level (R46, R500, D19). -/
def resetLevel : BitVec 2 := 1

/-- `reset.INTM`: 0, every source disabled (R46, R500, D19). -/
def resetIntm : Word := 0

/-- The four division functions (R269). -/
inductive DivOp where
  | div | mod | divu | modu
  deriving DecidableEq, Repr

/-- `div_corner(op, a, b)`: the OPEN result of a division by zero and of -2^63 divided by -1 (R4, R269, D7; log entry 7).
A free value: some 64-bit value, about which nothing can be proved. -/
opaque divCorner : DivOp → Word → Word → Word

/-- The draws behind the counters (R43, D24; log entry 24): what the hardware offers counter `i` at the machine's draw number `n`.
A free value; `Sys2Proof.Machine.counted` keeps a counter from going down. -/
opaque counterDraw (i n : Nat) : Word

/-- `irq.ints_write`: what a software write of `written` leaves in INTS when it held `old` (R36, R463, D18; log entry 38).
A free value. -/
opaque intsWrite (old written : Word) : Word

/-! ### The record `irq` (R4, R463): its members that are functions -/

/-- The members of `irq` that say which source interrupts and what it leaves in ECODE (R463). -/
structure IrqRules where
  /-- `irq.enabled`: given the value of INTM, the word whose bit i says that source i is enabled. -/
  enabled : Word → Word
  /-- `irq.ecode(i)`: the value written to ECODE on taking source i. -/
  ecode : Nat → Word
  /-- `irq.choose`: given the word whose bits are the pending enabled sources, the one that is taken. -/
  choose : Word → Nat
  deriving Inhabited

/-- A value of those members as plain data: the defaults of R463, or rules that the platform supplies, by their number (R4, R463,
D18; log entry 18). -/
inductive IrqInstance where
  | standard
  | supplied (n : Nat)
  deriving DecidableEq, Repr

/-- `irq.enabled`, `irq.ecode` and `irq.choose` by default (R463, D18; log entry 18). -/
def irqInstance : IrqInstance := .standard

/-- The rules that a platform may supply: any functions at all (R463, D18; log entry 18). A free value: nothing can be proved of
what they compute. -/
opaque suppliedIrq (n : Nat) : IrqRules

/-! ### The record `fp` (R4, R356, R357) -/

/-- The rounding mode `fp.rm`, a constant of the `fp` instance (R357). The source names no mode and the specification only the
default, `nearestEven`; the other four are those of IEEE 754 (PRESUMED, log entry 22). -/
inductive RoundingMode where
  | nearestEven | nearestAway | towardZero | upward | downward
  deriving DecidableEq, Repr, Inhabited

/-- The members of `fp` for one precision whose patterns have `w` bits (R356). -/
structure FpFunctions (w : Nat) where
  abs : BitVec w → BitVec w
  neg : BitVec w → BitVec w
  sqrt : BitVec w → BitVec w
  rint : BitVec w → BitVec w
  fromInt : Word → BitVec w
  toInt : BitVec w → Word
  eq : BitVec w → BitVec w → Bool
  ne : BitVec w → BitVec w → Bool
  lt : BitVec w → BitVec w → Bool
  ge : BitVec w → BitVec w → Bool
  isInf : BitVec w → Bool
  isNan : BitVec w → Bool
  add : BitVec w → BitVec w → BitVec w
  mul : BitVec w → BitVec w → BitVec w
  div : BitVec w → BitVec w → BitVec w
  min : BitVec w → BitVec w → BitVec w
  max : BitVec w → BitVec w → BitVec w
  add3 : BitVec w → BitVec w → BitVec w → BitVec w
  madd : BitVec w → BitVec w → BitVec w → BitVec w
  min3 : BitVec w → BitVec w → BitVec w → BitVec w
  max3 : BitVec w → BitVec w → BitVec w → BitVec w
  deriving Inhabited

/-- The record `fp` of pure functions on bit patterns, one set for each precision, and its rounding mode (R4, R356, R357). -/
structure FpRecord where
  /-- `fp.rm`: the mode that the functions round by (R357). Software can neither read nor change it. -/
  rm : RoundingMode
  /-- The members `fp.*_S`. -/
  single : FpFunctions 32
  /-- The members `fp.*_D`. -/
  double : FpFunctions 64
  /-- `fp.cvt_S_D`. -/
  narrow : BitVec 64 → BitVec 32
  /-- `fp.cvt_D_S`. -/
  widen : BitVec 32 → BitVec 64
  deriving Inhabited

/-- A value of the parameter `fp` as plain data: the IEEE 754 instance that rounds by a mode (the default one, or the same with
another mode), or a record that the platform supplies, by its number (R4, R356, D22, D23, D32; log entry 22). -/
inductive FpInstance where
  | ieee (rm : RoundingMode)
  | supplied (n : Nat)
  deriving DecidableEq, Repr

/-- `fp` by default: IEEE 754, rounding to nearest, ties to even (R4, R356, R357, D22; log entry 22). -/
def fpInstance : FpInstance := .ieee .nearestEven

/-- The records that a platform may supply: any functions at all (a truncating `fp.to_int_P`, D23; a fused `fp.madd_P`, D32; log
entries 22, 23 and 32). A free value: nothing can be proved of what they compute. -/
opaque suppliedFp (n : Nat) : FpRecord

/-- The floating-point operations that can produce a NaN out of an operand that is not to be returned as it stands. -/
inductive NanSource where
  | sqrt | rint | widen | narrow | add | mul | div | min | max
  deriving DecidableEq, Repr

/-- Which NaN a single-precision operation of an IEEE instance returns: a draw (R356, D22; log entry 39). A free value;
`Sys2Proof.Machine.FpFormat.drawnNan` keeps it a NaN. -/
opaque nanDrawS (rm : RoundingMode) (op : NanSource) (a b : BitVec 64) : BitVec 32

/-- Which NaN a double-precision operation of an IEEE instance returns: a draw (R356, D22; log entry 39). A free value. -/
opaque nanDrawD (rm : RoundingMode) (op : NanSource) (a b : BitVec 64) : BitVec 64

/-- CVTI.S of a NaN, an infinity or a value outside the signed 64-bit range: OPEN, fixed by the instance (R370, D23; log entry
23). A free value. -/
opaque toIntOpenS (rm : RoundingMode) (a : BitVec 32) : Word

/-- CVTI.D of a NaN, an infinity or a value outside the signed 64-bit range: OPEN, fixed by the instance (R371, D23; log entry
23). A free value. -/
opaque toIntOpenD (rm : RoundingMode) (a : BitVec 64) : Word

end Sys2Proof.Config
end

