-- ==== Sys2Proof/Syntax.lean ====
section
/-! DEFINITION. The syntax of the instructions: one constructor per row of the opcode table (30_encoding.md, R92 to R119). A field
that the specification ignores (R100) is no argument. -/

namespace Sys2Proof

/-- The 261 instructions. Register fields are called by the names of the format figures (R98): `a`, `b`, `c` and `d`. `sc` is the
scale of an indexed access, `l` and `r` the shift amounts of SHIFT, `n` that of ADDS and NADDS (R106). -/
inductive Instr where
  -- NOP (R97, R258)
  /-- NOP (R258). -/
  | nop (imm : BitVec 26)
  -- Jumps, J format (R101)
  /-- J (R141). -/
  | j (off : BitVec 26)
  /-- JAL (R142). -/
  | jal (off : BitVec 26)
  -- Branches on two registers, B format (R102)
  /-- BEQ (R143). -/
  | beq (a b : Reg) (off : BitVec 16)
  /-- BNE (R144). -/
  | bne (a b : Reg) (off : BitVec 16)
  /-- BLT (R145). -/
  | blt (a b : Reg) (off : BitVec 16)
  /-- BGE (R146). -/
  | bge (a b : Reg) (off : BitVec 16)
  /-- BLTU (R147). -/
  | bltu (a b : Reg) (off : BitVec 16)
  /-- BGEU (R148). -/
  | bgeu (a b : Reg) (off : BitVec 16)
  -- Branches on a register and an immediate, B format (R102, R104)
  /-- BEQI (R149). -/
  | beqi (a : Reg) (imm : BitVec 5) (off : BitVec 16)
  /-- BNEI (R150). -/
  | bnei (a : Reg) (imm : BitVec 5) (off : BitVec 16)
  /-- BLTI (R151). -/
  | blti (a : Reg) (imm : BitVec 5) (off : BitVec 16)
  /-- BGEI (R152). -/
  | bgei (a : Reg) (imm : BitVec 5) (off : BitVec 16)
  /-- BLTUI (R153). -/
  | bltui (a : Reg) (imm : BitVec 5) (off : BitVec 16)
  /-- BGEUI (R154). -/
  | bgeui (a : Reg) (imm : BitVec 5) (off : BitVec 16)
  -- Loops, B format
  /-- LOOP (R155). -/
  | loop (a b : Reg) (off : BitVec 16)
  /-- LOOPD (R156). -/
  | loopd (a b : Reg) (off : BitVec 16)
  -- Jumps through a register, B format (R103)
  /-- JR (R157). -/
  | jr (a : Reg) (off : BitVec 16)
  /-- JALR (R158). -/
  | jalr (a b : Reg) (off : BitVec 16)
  -- LOAD, I format (R109)
  /-- LBU (R185). -/
  | lbu (a b : Reg) (imm : BitVec 12)
  /-- LHU (R186). -/
  | lhu (a b : Reg) (imm : BitVec 12)
  /-- LWU (R187). -/
  | lwu (a b : Reg) (imm : BitVec 12)
  /-- LDU (R188). -/
  | ldu (a b : Reg) (imm : BitVec 12)
  /-- LB (R189). -/
  | lb (a b : Reg) (imm : BitVec 12)
  /-- LH (R190). -/
  | lh (a b : Reg) (imm : BitVec 12)
  /-- LW (R191). -/
  | lw (a b : Reg) (imm : BitVec 12)
  /-- LD (R192). -/
  | ld (a b : Reg) (imm : BitVec 12)
  -- STORE, I format (R110)
  /-- SB (R193). -/
  | sb (a b : Reg) (imm : BitVec 12)
  /-- SH (R194). -/
  | sh (a b : Reg) (imm : BitVec 12)
  /-- SW (R195). -/
  | sw (a b : Reg) (imm : BitVec 12)
  /-- SD (R196). -/
  | sd (a b : Reg) (imm : BitVec 12)
  -- LOADX, R format (R109)
  /-- LBU__indexed (R197). -/
  | lbuX (a b : Reg) (sc : Nat) (d : Reg)
  /-- LHU__indexed (R198). -/
  | lhuX (a b : Reg) (sc : Nat) (d : Reg)
  /-- LWU__indexed (R199). -/
  | lwuX (a b : Reg) (sc : Nat) (d : Reg)
  /-- LDU__indexed (R200). -/
  | lduX (a b : Reg) (sc : Nat) (d : Reg)
  /-- LB__indexed (R201). -/
  | lbX (a b : Reg) (sc : Nat) (d : Reg)
  /-- LH__indexed (R202). -/
  | lhX (a b : Reg) (sc : Nat) (d : Reg)
  /-- LW__indexed (R203). -/
  | lwX (a b : Reg) (sc : Nat) (d : Reg)
  /-- LD__indexed (R204). -/
  | ldX (a b : Reg) (sc : Nat) (d : Reg)
  -- STORX, R format (R110)
  /-- SB__indexed (R205). -/
  | sbX (a b : Reg) (sc : Nat) (c : Reg)
  /-- SH__indexed (R206). -/
  | shX (a b : Reg) (sc : Nat) (c : Reg)
  /-- SW__indexed (R207). -/
  | swX (a b : Reg) (sc : Nat) (c : Reg)
  /-- SD__indexed (R208). -/
  | sdX (a b : Reg) (sc : Nat) (c : Reg)
  -- ALUI, I format (R111)
  /-- ADD__immediate (R241, R257). -/
  | addI (a b : Reg) (imm : BitVec 12)
  /-- NADD__immediate (R242, R257). -/
  | naddI (a b : Reg) (imm : BitVec 12)
  /-- AND__immediate (R243, R257). -/
  | andI (a b : Reg) (imm : BitVec 12)
  /-- CAND__immediate (R244, R257). -/
  | candI (a b : Reg) (imm : BitVec 12)
  /-- OR__immediate (R245, R257). -/
  | orI (a b : Reg) (imm : BitVec 12)
  /-- COR__immediate (R246, R257). -/
  | corI (a b : Reg) (imm : BitVec 12)
  /-- XOR__immediate (R247, R257). -/
  | xorI (a b : Reg) (imm : BitVec 12)
  /-- SET (R248, R257). -/
  | setI (a b : Reg) (imm : BitVec 12)
  /-- EQ__immediate (R249, R257). -/
  | eqI (a b : Reg) (imm : BitVec 12)
  /-- NE__immediate (R250, R257). -/
  | neI (a b : Reg) (imm : BitVec 12)
  /-- LT__immediate (R251, R257). -/
  | ltI (a b : Reg) (imm : BitVec 12)
  /-- GE__immediate (R252, R257). -/
  | geI (a b : Reg) (imm : BitVec 12)
  /-- LTU__immediate (R253, R257). -/
  | ltuI (a b : Reg) (imm : BitVec 12)
  /-- GEU__immediate (R254, R257). -/
  | geuI (a b : Reg) (imm : BitVec 12)
  /-- MIN__immediate (R255, R257). -/
  | minI (a b : Reg) (imm : BitVec 12)
  /-- MAX__immediate (R286, R257). -/
  | maxI (a b : Reg) (imm : BitVec 12)
  -- ALUI1: I format and one NOP (R107, R111)
  /-- ADD__ALUI1 (R241, R259, R256). -/
  | addI1 (a b : Reg) (imm : BitVec 12)
  /-- NADD__ALUI1 (R242, R259, R256). -/
  | naddI1 (a b : Reg) (imm : BitVec 12)
  /-- AND__ALUI1 (R243, R259, R256). -/
  | andI1 (a b : Reg) (imm : BitVec 12)
  /-- CAND__ALUI1 (R244, R259, R256). -/
  | candI1 (a b : Reg) (imm : BitVec 12)
  /-- OR__ALUI1 (R245, R259, R256). -/
  | orI1 (a b : Reg) (imm : BitVec 12)
  /-- COR__ALUI1 (R246, R259, R256). -/
  | corI1 (a b : Reg) (imm : BitVec 12)
  /-- XOR__ALUI1 (R247, R259, R256). -/
  | xorI1 (a b : Reg) (imm : BitVec 12)
  /-- SET__ALUI1 (R248, R259, R256). -/
  | setI1 (a b : Reg) (imm : BitVec 12)
  /-- EQ__ALUI1 (R249, R259, R256). -/
  | eqI1 (a b : Reg) (imm : BitVec 12)
  /-- NE__ALUI1 (R250, R259, R256). -/
  | neI1 (a b : Reg) (imm : BitVec 12)
  /-- LT__ALUI1 (R251, R259, R256). -/
  | ltI1 (a b : Reg) (imm : BitVec 12)
  /-- GE__ALUI1 (R252, R259, R256). -/
  | geI1 (a b : Reg) (imm : BitVec 12)
  /-- LTU__ALUI1 (R253, R259, R256). -/
  | ltuI1 (a b : Reg) (imm : BitVec 12)
  /-- GEU__ALUI1 (R254, R259, R256). -/
  | geuI1 (a b : Reg) (imm : BitVec 12)
  /-- MIN__ALUI1 (R255, R259, R256). -/
  | minI1 (a b : Reg) (imm : BitVec 12)
  /-- MAX__ALUI1 (R286, R259, R256). -/
  | maxI1 (a b : Reg) (imm : BitVec 12)
  -- ALUI2: I format and one NOP (R107, R111)
  /-- ADD__ALUI2 (R241, R260, R256). -/
  | addI2 (a b : Reg) (imm : BitVec 12)
  /-- NADD__ALUI2 (R242, R260, R256). -/
  | naddI2 (a b : Reg) (imm : BitVec 12)
  /-- AND__ALUI2 (R243, R260, R256). -/
  | andI2 (a b : Reg) (imm : BitVec 12)
  /-- CAND__ALUI2 (R244, R260, R256). -/
  | candI2 (a b : Reg) (imm : BitVec 12)
  /-- OR__ALUI2 (R245, R260, R256). -/
  | orI2 (a b : Reg) (imm : BitVec 12)
  /-- COR__ALUI2 (R246, R260, R256). -/
  | corI2 (a b : Reg) (imm : BitVec 12)
  /-- XOR__ALUI2 (R247, R260, R256). -/
  | xorI2 (a b : Reg) (imm : BitVec 12)
  /-- SET__ALUI2 (R248, R260, R256). -/
  | setI2 (a b : Reg) (imm : BitVec 12)
  /-- EQ__ALUI2 (R249, R260, R256). -/
  | eqI2 (a b : Reg) (imm : BitVec 12)
  /-- NE__ALUI2 (R250, R260, R256). -/
  | neI2 (a b : Reg) (imm : BitVec 12)
  /-- LT__ALUI2 (R251, R260, R256). -/
  | ltI2 (a b : Reg) (imm : BitVec 12)
  /-- GE__ALUI2 (R252, R260, R256). -/
  | geI2 (a b : Reg) (imm : BitVec 12)
  /-- LTU__ALUI2 (R253, R260, R256). -/
  | ltuI2 (a b : Reg) (imm : BitVec 12)
  /-- GEU__ALUI2 (R254, R260, R256). -/
  | geuI2 (a b : Reg) (imm : BitVec 12)
  /-- MIN__ALUI2 (R255, R260, R256). -/
  | minI2 (a b : Reg) (imm : BitVec 12)
  /-- MAX__ALUI2 (R286, R260, R256). -/
  | maxI2 (a b : Reg) (imm : BitVec 12)
  -- ALUI3: I format and two NOPs (R107, R111)
  /-- ADD__ALUI3 (R241, R261, R256). -/
  | addI3 (a b : Reg) (imm : BitVec 12)
  /-- NADD__ALUI3 (R242, R261, R256). -/
  | naddI3 (a b : Reg) (imm : BitVec 12)
  /-- AND__ALUI3 (R243, R261, R256). -/
  | andI3 (a b : Reg) (imm : BitVec 12)
  /-- CAND__ALUI3 (R244, R261, R256). -/
  | candI3 (a b : Reg) (imm : BitVec 12)
  /-- OR__ALUI3 (R245, R261, R256). -/
  | orI3 (a b : Reg) (imm : BitVec 12)
  /-- COR__ALUI3 (R246, R261, R256). -/
  | corI3 (a b : Reg) (imm : BitVec 12)
  /-- XOR__ALUI3 (R247, R261, R256). -/
  | xorI3 (a b : Reg) (imm : BitVec 12)
  /-- SET__ALUI3 (R248, R261, R256). -/
  | setI3 (a b : Reg) (imm : BitVec 12)
  /-- EQ__ALUI3 (R249, R261, R256). -/
  | eqI3 (a b : Reg) (imm : BitVec 12)
  /-- NE__ALUI3 (R250, R261, R256). -/
  | neI3 (a b : Reg) (imm : BitVec 12)
  /-- LT__ALUI3 (R251, R261, R256). -/
  | ltI3 (a b : Reg) (imm : BitVec 12)
  /-- GE__ALUI3 (R252, R261, R256). -/
  | geI3 (a b : Reg) (imm : BitVec 12)
  /-- LTU__ALUI3 (R253, R261, R256). -/
  | ltuI3 (a b : Reg) (imm : BitVec 12)
  /-- GEU__ALUI3 (R254, R261, R256). -/
  | geuI3 (a b : Reg) (imm : BitVec 12)
  /-- MIN__ALUI3 (R255, R261, R256). -/
  | minI3 (a b : Reg) (imm : BitVec 12)
  /-- MAX__ALUI3 (R286, R261, R256). -/
  | maxI3 (a b : Reg) (imm : BitVec 12)
  -- RET, I format (R111, R262)
  /-- RET.ADD (R241, R262). -/
  | retAdd (a b : Reg) (imm : BitVec 12)
  /-- RET.NADD (R242, R262). -/
  | retNadd (a b : Reg) (imm : BitVec 12)
  /-- RET.AND (R243, R262). -/
  | retAnd (a b : Reg) (imm : BitVec 12)
  /-- RET.CAND (R244, R262). -/
  | retCand (a b : Reg) (imm : BitVec 12)
  /-- RET.OR (R245, R262). -/
  | retOr (a b : Reg) (imm : BitVec 12)
  /-- RET.COR (R246, R262). -/
  | retCor (a b : Reg) (imm : BitVec 12)
  /-- RET.XOR (R247, R262). -/
  | retXor (a b : Reg) (imm : BitVec 12)
  /-- RET.SET (R248, R262). -/
  | retSet (a b : Reg) (imm : BitVec 12)
  /-- RET.EQ (R249, R262). -/
  | retEq (a b : Reg) (imm : BitVec 12)
  /-- RET.NE (R250, R262). -/
  | retNe (a b : Reg) (imm : BitVec 12)
  /-- RET.LT (R251, R262). -/
  | retLt (a b : Reg) (imm : BitVec 12)
  /-- RET.GE (R252, R262). -/
  | retGe (a b : Reg) (imm : BitVec 12)
  /-- RET.LTU (R253, R262). -/
  | retLtu (a b : Reg) (imm : BitVec 12)
  /-- RET.GEU (R254, R262). -/
  | retGeu (a b : Reg) (imm : BitVec 12)
  /-- RET.MIN (R255, R262). -/
  | retMin (a b : Reg) (imm : BitVec 12)
  /-- RET.MAX (R286, R262). -/
  | retMax (a b : Reg) (imm : BitVec 12)
  -- SHIFT, I format (R106, R112)
  /-- SHLR (R264). -/
  | shlr (a b : Reg) (l r : Nat)
  /-- SHLR__f___1 (R265). -/
  | shlr1 (a b : Reg) (l r : Nat)
  /-- SALR (R266). -/
  | salr (a b : Reg) (l r : Nat)
  /-- ROR__immediate (R267). -/
  | rorI (a b : Reg) (r : Nat)
  /-- MUL__immediate (R268). -/
  | mulI (a b : Reg) (imm : BitVec 12)
  /-- DIV__immediate (R270). -/
  | divI (a b : Reg) (imm : BitVec 12)
  /-- MOD__immediate (R271). -/
  | modI (a b : Reg) (imm : BitVec 12)
  /-- DIVU__immediate (R272). -/
  | divuI (a b : Reg) (imm : BitVec 12)
  /-- MODU__immediate (R273). -/
  | moduI (a b : Reg) (imm : BitVec 12)
  -- ALU, R format (R113)
  /-- ADD (R225). -/
  | add (a b d : Reg)
  /-- NADD (R226). -/
  | nadd (a b d : Reg)
  /-- AND (R227). -/
  | and (a b d : Reg)
  /-- CAND (R228). -/
  | cand (a b d : Reg)
  /-- OR (R229). -/
  | or (a b d : Reg)
  /-- COR (R230). -/
  | cor (a b d : Reg)
  /-- XOR (R231). -/
  | xor (a b d : Reg)
  /-- XNOR (R232). -/
  | xnor (a b d : Reg)
  /-- EQ (R233). -/
  | eq (a b d : Reg)
  /-- NE (R234). -/
  | ne (a b d : Reg)
  /-- LT (R235). -/
  | lt (a b d : Reg)
  /-- GE (R236). -/
  | ge (a b d : Reg)
  /-- LTU (R237). -/
  | ltu (a b d : Reg)
  /-- GEU (R238). -/
  | geu (a b d : Reg)
  /-- MIN (R239). -/
  | min (a b d : Reg)
  /-- MAX (R240). -/
  | max (a b d : Reg)
  /-- SHL (R274). -/
  | shl (a b d : Reg)
  /-- SHR (R275). -/
  | shr (a b d : Reg)
  /-- SAR (R276). -/
  | sar (a b d : Reg)
  /-- ROR (R277). -/
  | ror (a b d : Reg)
  /-- MUL (R278). -/
  | mul (a b d : Reg)
  /-- DIV (R279). -/
  | div (a b d : Reg)
  /-- MOD (R280). -/
  | mod (a b d : Reg)
  /-- DIVU (R281). -/
  | divu (a b d : Reg)
  /-- MODU (R282). -/
  | modu (a b d : Reg)
  /-- ADDS (R283). -/
  | adds (a b : Reg) (n : Nat) (d : Reg)
  /-- NADDS (R284). -/
  | nadds (a b : Reg) (n : Nat) (d : Reg)
  -- ALU3, R format (R114)
  /-- ADD__three-operand (R304). -/
  | add3 (a b c d : Reg)
  /-- NADD__three-operand (R305). -/
  | nadd3 (a b c d : Reg)
  /-- AND__three-operand (R306). -/
  | and3 (a b c d : Reg)
  /-- CAND__three-operand (R307). -/
  | cand3 (a b c d : Reg)
  /-- OR__three-operand (R308). -/
  | or3 (a b c d : Reg)
  /-- COR__three-operand (R309). -/
  | cor3 (a b c d : Reg)
  /-- XOR__three-operand (R310). -/
  | xor3 (a b c d : Reg)
  /-- XNOR__three-operand (R311). -/
  | xnor3 (a b c d : Reg)
  /-- ANDEQ (R312). -/
  | andeq (a b c d : Reg)
  /-- ANDNE (R313). -/
  | andne (a b c d : Reg)
  /-- ANDLT (R314). -/
  | andlt (a b c d : Reg)
  /-- ANDGE (R315). -/
  | andge (a b c d : Reg)
  /-- ANDLTU (R316). -/
  | andltu (a b c d : Reg)
  /-- ANDGEU (R317). -/
  | andgeu (a b c d : Reg)
  /-- MINU__three-operand (R324). -/
  | minu3 (a b c d : Reg)
  /-- MAXU__three-operand (R325). -/
  | maxu3 (a b c d : Reg)
  /-- OREQ (R318). -/
  | oreq (a b c d : Reg)
  /-- ORNE (R319). -/
  | orne (a b c d : Reg)
  /-- ORLT (R320). -/
  | orlt (a b c d : Reg)
  /-- ORGE (R321). -/
  | orge (a b c d : Reg)
  /-- ORLTU (R322). -/
  | orltu (a b c d : Reg)
  /-- ORGEU (R323). -/
  | orgeu (a b c d : Reg)
  /-- MIN__three-operand (R326). -/
  | min3 (a b c d : Reg)
  /-- MAX__three-operand (R327). -/
  | max3 (a b c d : Reg)
  /-- SEL (R330). -/
  | sel (a b c d : Reg)
  /-- SELN (R331). -/
  | seln (a b c d : Reg)
  /-- SELP (R332). -/
  | selp (a b c d : Reg)
  /-- MADD (R334). -/
  | madd (a b c d : Reg)
  /-- NMADD (R335). -/
  | nmadd (a b c d : Reg)
  -- FPU1, floating-point R format (R115)
  /-- ABS.S (R360). -/
  | absS (a d : Reg)
  /-- ABS.D (R361). -/
  | absD (a d : Reg)
  /-- NEG.S (R362). -/
  | negS (a d : Reg)
  /-- NEG.D (R363). -/
  | negD (a d : Reg)
  /-- SQRT.S (R364). -/
  | sqrtS (a d : Reg)
  /-- SQRT.D (R365). -/
  | sqrtD (a d : Reg)
  /-- CVTS.D (R366). -/
  | cvtSD (a d : Reg)
  /-- CVTD.S (R367). -/
  | cvtDS (a d : Reg)
  /-- CVTS.I (R368). -/
  | cvtSI (a d : Reg)
  /-- CVTD.I (R369). -/
  | cvtDI (a d : Reg)
  /-- CVTI.S (R370). -/
  | cvtIS (a d : Reg)
  /-- CVTI.D (R371). -/
  | cvtID (a d : Reg)
  /-- RINT.S (R372). -/
  | rintS (a d : Reg)
  /-- RINT.D (R373). -/
  | rintD (a d : Reg)
  -- FPU2, floating-point R format (R116)
  /-- EQ.S (R374). -/
  | eqS (a b d : Reg)
  /-- EQ.D (R375). -/
  | eqD (a b d : Reg)
  /-- NE.S (R376). -/
  | neS (a b d : Reg)
  /-- NE.D (R377). -/
  | neD (a b d : Reg)
  /-- LT.S (R378). -/
  | ltS (a b d : Reg)
  /-- LT.D (R379). -/
  | ltD (a b d : Reg)
  /-- GE.S (R380). -/
  | geS (a b d : Reg)
  /-- GE.D (R381). -/
  | geD (a b d : Reg)
  /-- INF.S (R382). -/
  | infS (a b d : Reg)
  /-- INF.D (R383). -/
  | infD (a b d : Reg)
  /-- NAN.S (R384). -/
  | nanS (a b d : Reg)
  /-- NAN.D (R385). -/
  | nanD (a b d : Reg)
  /-- ADD.S (R387). -/
  | addS (a b d : Reg)
  /-- ADD.D (R388). -/
  | addD (a b d : Reg)
  /-- NADD.S (R389). -/
  | naddS (a b d : Reg)
  /-- NADD.D (R390). -/
  | naddD (a b d : Reg)
  /-- MUL.S (R391). -/
  | mulS (a b d : Reg)
  /-- MUL.D (R392). -/
  | mulD (a b d : Reg)
  /-- DIV.S (R393). -/
  | divS (a b d : Reg)
  /-- DIV.D (R394). -/
  | divD (a b d : Reg)
  /-- MIN.S (R395). -/
  | minS (a b d : Reg)
  /-- MIN.D (R396). -/
  | minD (a b d : Reg)
  /-- MAX.S (R397). -/
  | maxS (a b d : Reg)
  /-- MAX.D (R398). -/
  | maxD (a b d : Reg)
  -- FPU3, floating-point R format (R117)
  /-- ANDEQ.S (R412). -/
  | andeqS (a b c d : Reg)
  /-- ANDEQ.D (R413). -/
  | andeqD (a b c d : Reg)
  /-- ANDNE.S (R414). -/
  | andneS (a b c d : Reg)
  /-- ANDNE.D (R415). -/
  | andneD (a b c d : Reg)
  /-- ANDLT.S (R416). -/
  | andltS (a b c d : Reg)
  /-- ANDLT.D (R417). -/
  | andltD (a b c d : Reg)
  /-- ANDGE.S (R418). -/
  | andgeS (a b c d : Reg)
  /-- ANDGE.D (R419). -/
  | andgeD (a b c d : Reg)
  /-- OREQ.S (R420). -/
  | oreqS (a b c d : Reg)
  /-- OREQ.D (R421). -/
  | oreqD (a b c d : Reg)
  /-- ORNE.S (R422). -/
  | orneS (a b c d : Reg)
  /-- ORNE.D (R423). -/
  | orneD (a b c d : Reg)
  /-- ORLT.S (R424). -/
  | orltS (a b c d : Reg)
  /-- ORLT.D (R425). -/
  | orltD (a b c d : Reg)
  /-- ORGE.S (R426). -/
  | orgeS (a b c d : Reg)
  /-- ORGE.D (R427). -/
  | orgeD (a b c d : Reg)
  /-- ADD.S__three-operand (R400). -/
  | add3S (a b c d : Reg)
  /-- ADD.D__three-operand (R401). -/
  | add3D (a b c d : Reg)
  /-- NADD.S__three-operand (R402). -/
  | nadd3S (a b c d : Reg)
  /-- NADD.D__three-operand (R403). -/
  | nadd3D (a b c d : Reg)
  /-- MADD.S (R404). -/
  | maddS (a b c d : Reg)
  /-- MADD.D (R405). -/
  | maddD (a b c d : Reg)
  /-- NMADD.S (R406). -/
  | nmaddS (a b c d : Reg)
  /-- NMADD.D (R407). -/
  | nmaddD (a b c d : Reg)
  /-- MIN.S__three-operand (R408). -/
  | min3S (a b c d : Reg)
  /-- MIN.D__three-operand (R409). -/
  | min3D (a b c d : Reg)
  /-- MAX.S__three-operand (R410). -/
  | max3S (a b c d : Reg)
  /-- MAX.D__three-operand (R411). -/
  | max3D (a b c d : Reg)
  -- SYS, I format (R118)
  /-- SCALL (R431). -/
  | scall (imm : BitVec 12)
  /-- DCALL (R432). -/
  | dcall (imm : BitVec 12)
  /-- SRET (R433). -/
  | sret (imm : BitVec 12)
  -- MOV, R format (R119)
  /-- MOVRC (R436). -/
  | movrc (a d : Reg)
  /-- MOVEC (R437). -/
  | movec (a d : Reg)
  /-- MOVER (R438). -/
  | mover (a d : Reg)
  /-- MOVRE (R439). -/
  | movre (a d : Reg)
  deriving DecidableEq, Repr

end Sys2Proof
end

