-- ==== Sys2Proof/WellFormed.lean ====
section
/-! DEFINITION. Which instruction terms are well formed: those whose amounts fit the fields that hold them (R106). The other
arguments fit by their types. -/

namespace Sys2Proof

/-- A scale fits the two-bit x field (R106, R180). -/
def scaleFits (sc : Nat) : Bool := decide (sc < 4)
/-- A shift amount of SHIFT fits six bits (R106). -/
def amountFits (n : Nat) : Bool := decide (n < 64)
/-- The shift amount of ADDS and NADDS fits the four-bit f field (R106). -/
def addShiftFits (n : Nat) : Bool := decide (n < 16)

/-- Whether an instruction term is well formed. -/
def Instr.wf : Instr → Bool
  | .nop _ => true
  | .j _ => true
  | .jal _ => true
  | .beq _ _ _ => true
  | .bne _ _ _ => true
  | .blt _ _ _ => true
  | .bge _ _ _ => true
  | .bltu _ _ _ => true
  | .bgeu _ _ _ => true
  | .beqi _ _ _ => true
  | .bnei _ _ _ => true
  | .blti _ _ _ => true
  | .bgei _ _ _ => true
  | .bltui _ _ _ => true
  | .bgeui _ _ _ => true
  | .loop _ _ _ => true
  | .loopd _ _ _ => true
  | .jr _ _ => true
  | .jalr _ _ _ => true
  | .lbu _ _ _ => true
  | .lhu _ _ _ => true
  | .lwu _ _ _ => true
  | .ldu _ _ _ => true
  | .lb _ _ _ => true
  | .lh _ _ _ => true
  | .lw _ _ _ => true
  | .ld _ _ _ => true
  | .sb _ _ _ => true
  | .sh _ _ _ => true
  | .sw _ _ _ => true
  | .sd _ _ _ => true
  | .lbuX _ _ sc _ => scaleFits sc
  | .lhuX _ _ sc _ => scaleFits sc
  | .lwuX _ _ sc _ => scaleFits sc
  | .lduX _ _ sc _ => scaleFits sc
  | .lbX _ _ sc _ => scaleFits sc
  | .lhX _ _ sc _ => scaleFits sc
  | .lwX _ _ sc _ => scaleFits sc
  | .ldX _ _ sc _ => scaleFits sc
  | .sbX _ _ sc _ => scaleFits sc
  | .shX _ _ sc _ => scaleFits sc
  | .swX _ _ sc _ => scaleFits sc
  | .sdX _ _ sc _ => scaleFits sc
  | .addI _ _ _ => true
  | .naddI _ _ _ => true
  | .andI _ _ _ => true
  | .candI _ _ _ => true
  | .orI _ _ _ => true
  | .corI _ _ _ => true
  | .xorI _ _ _ => true
  | .setI _ _ _ => true
  | .eqI _ _ _ => true
  | .neI _ _ _ => true
  | .ltI _ _ _ => true
  | .geI _ _ _ => true
  | .ltuI _ _ _ => true
  | .geuI _ _ _ => true
  | .minI _ _ _ => true
  | .maxI _ _ _ => true
  | .addI1 _ _ _ => true
  | .naddI1 _ _ _ => true
  | .andI1 _ _ _ => true
  | .candI1 _ _ _ => true
  | .orI1 _ _ _ => true
  | .corI1 _ _ _ => true
  | .xorI1 _ _ _ => true
  | .setI1 _ _ _ => true
  | .eqI1 _ _ _ => true
  | .neI1 _ _ _ => true
  | .ltI1 _ _ _ => true
  | .geI1 _ _ _ => true
  | .ltuI1 _ _ _ => true
  | .geuI1 _ _ _ => true
  | .minI1 _ _ _ => true
  | .maxI1 _ _ _ => true
  | .addI2 _ _ _ => true
  | .naddI2 _ _ _ => true
  | .andI2 _ _ _ => true
  | .candI2 _ _ _ => true
  | .orI2 _ _ _ => true
  | .corI2 _ _ _ => true
  | .xorI2 _ _ _ => true
  | .setI2 _ _ _ => true
  | .eqI2 _ _ _ => true
  | .neI2 _ _ _ => true
  | .ltI2 _ _ _ => true
  | .geI2 _ _ _ => true
  | .ltuI2 _ _ _ => true
  | .geuI2 _ _ _ => true
  | .minI2 _ _ _ => true
  | .maxI2 _ _ _ => true
  | .addI3 _ _ _ => true
  | .naddI3 _ _ _ => true
  | .andI3 _ _ _ => true
  | .candI3 _ _ _ => true
  | .orI3 _ _ _ => true
  | .corI3 _ _ _ => true
  | .xorI3 _ _ _ => true
  | .setI3 _ _ _ => true
  | .eqI3 _ _ _ => true
  | .neI3 _ _ _ => true
  | .ltI3 _ _ _ => true
  | .geI3 _ _ _ => true
  | .ltuI3 _ _ _ => true
  | .geuI3 _ _ _ => true
  | .minI3 _ _ _ => true
  | .maxI3 _ _ _ => true
  | .retAdd _ _ _ => true
  | .retNadd _ _ _ => true
  | .retAnd _ _ _ => true
  | .retCand _ _ _ => true
  | .retOr _ _ _ => true
  | .retCor _ _ _ => true
  | .retXor _ _ _ => true
  | .retSet _ _ _ => true
  | .retEq _ _ _ => true
  | .retNe _ _ _ => true
  | .retLt _ _ _ => true
  | .retGe _ _ _ => true
  | .retLtu _ _ _ => true
  | .retGeu _ _ _ => true
  | .retMin _ _ _ => true
  | .retMax _ _ _ => true
  | .shlr _ _ l r => amountFits l && amountFits r
  | .shlr1 _ _ l r => amountFits l && amountFits r
  | .salr _ _ l r => amountFits l && amountFits r
  | .rorI _ _ r => amountFits r
  | .mulI _ _ _ => true
  | .divI _ _ _ => true
  | .modI _ _ _ => true
  | .divuI _ _ _ => true
  | .moduI _ _ _ => true
  | .add _ _ _ => true
  | .nadd _ _ _ => true
  | .and _ _ _ => true
  | .cand _ _ _ => true
  | .or _ _ _ => true
  | .cor _ _ _ => true
  | .xor _ _ _ => true
  | .xnor _ _ _ => true
  | .eq _ _ _ => true
  | .ne _ _ _ => true
  | .lt _ _ _ => true
  | .ge _ _ _ => true
  | .ltu _ _ _ => true
  | .geu _ _ _ => true
  | .min _ _ _ => true
  | .max _ _ _ => true
  | .shl _ _ _ => true
  | .shr _ _ _ => true
  | .sar _ _ _ => true
  | .ror _ _ _ => true
  | .mul _ _ _ => true
  | .div _ _ _ => true
  | .mod _ _ _ => true
  | .divu _ _ _ => true
  | .modu _ _ _ => true
  | .adds _ _ n _ => addShiftFits n
  | .nadds _ _ n _ => addShiftFits n
  | .add3 _ _ _ _ => true
  | .nadd3 _ _ _ _ => true
  | .and3 _ _ _ _ => true
  | .cand3 _ _ _ _ => true
  | .or3 _ _ _ _ => true
  | .cor3 _ _ _ _ => true
  | .xor3 _ _ _ _ => true
  | .xnor3 _ _ _ _ => true
  | .andeq _ _ _ _ => true
  | .andne _ _ _ _ => true
  | .andlt _ _ _ _ => true
  | .andge _ _ _ _ => true
  | .andltu _ _ _ _ => true
  | .andgeu _ _ _ _ => true
  | .minu3 _ _ _ _ => true
  | .maxu3 _ _ _ _ => true
  | .oreq _ _ _ _ => true
  | .orne _ _ _ _ => true
  | .orlt _ _ _ _ => true
  | .orge _ _ _ _ => true
  | .orltu _ _ _ _ => true
  | .orgeu _ _ _ _ => true
  | .min3 _ _ _ _ => true
  | .max3 _ _ _ _ => true
  | .sel _ _ _ _ => true
  | .seln _ _ _ _ => true
  | .selp _ _ _ _ => true
  | .madd _ _ _ _ => true
  | .nmadd _ _ _ _ => true
  | .absS _ _ => true
  | .absD _ _ => true
  | .negS _ _ => true
  | .negD _ _ => true
  | .sqrtS _ _ => true
  | .sqrtD _ _ => true
  | .cvtSD _ _ => true
  | .cvtDS _ _ => true
  | .cvtSI _ _ => true
  | .cvtDI _ _ => true
  | .cvtIS _ _ => true
  | .cvtID _ _ => true
  | .rintS _ _ => true
  | .rintD _ _ => true
  | .eqS _ _ _ => true
  | .eqD _ _ _ => true
  | .neS _ _ _ => true
  | .neD _ _ _ => true
  | .ltS _ _ _ => true
  | .ltD _ _ _ => true
  | .geS _ _ _ => true
  | .geD _ _ _ => true
  | .infS _ _ _ => true
  | .infD _ _ _ => true
  | .nanS _ _ _ => true
  | .nanD _ _ _ => true
  | .addS _ _ _ => true
  | .addD _ _ _ => true
  | .naddS _ _ _ => true
  | .naddD _ _ _ => true
  | .mulS _ _ _ => true
  | .mulD _ _ _ => true
  | .divS _ _ _ => true
  | .divD _ _ _ => true
  | .minS _ _ _ => true
  | .minD _ _ _ => true
  | .maxS _ _ _ => true
  | .maxD _ _ _ => true
  | .andeqS _ _ _ _ => true
  | .andeqD _ _ _ _ => true
  | .andneS _ _ _ _ => true
  | .andneD _ _ _ _ => true
  | .andltS _ _ _ _ => true
  | .andltD _ _ _ _ => true
  | .andgeS _ _ _ _ => true
  | .andgeD _ _ _ _ => true
  | .oreqS _ _ _ _ => true
  | .oreqD _ _ _ _ => true
  | .orneS _ _ _ _ => true
  | .orneD _ _ _ _ => true
  | .orltS _ _ _ _ => true
  | .orltD _ _ _ _ => true
  | .orgeS _ _ _ _ => true
  | .orgeD _ _ _ _ => true
  | .add3S _ _ _ _ => true
  | .add3D _ _ _ _ => true
  | .nadd3S _ _ _ _ => true
  | .nadd3D _ _ _ _ => true
  | .maddS _ _ _ _ => true
  | .maddD _ _ _ _ => true
  | .nmaddS _ _ _ _ => true
  | .nmaddD _ _ _ _ => true
  | .min3S _ _ _ _ => true
  | .min3D _ _ _ _ => true
  | .max3S _ _ _ _ => true
  | .max3D _ _ _ _ => true
  | .scall _ => true
  | .dcall _ => true
  | .sret _ => true
  | .movrc _ _ => true
  | .movec _ _ => true
  | .mover _ _ => true
  | .movre _ _ => true

/-- The instruction is well formed. -/
abbrev Instr.WellFormed (i : Instr) : Prop := i.wf = true

end Sys2Proof
end

