-- ==== Sys2Proof/Decode.lean ====
section
/-! DEFINITION. The decoder (R90 to R124), total on words and on bytes, and after it the encoder, written from the same encoding
tables. Both are the only places that know where a field stands, so that another layout changes nothing else (D1; log entry 1).

What builds one of the last constructors is marked noncomputable: Lean's code generator numbers the constructors of a type up to
244, and there are 261 instructions. The kernel evaluates all of it; only compiled code is missing. -/

namespace Sys2Proof

/-! ### Byte order (R62, R63) -/

/-- The number that bytes stand for, least significant byte first (R62). -/
def leNat : List Byte → Nat
  | [] => 0
  | b :: bs => b.toNat + 256 * leNat bs

/-- The `n` bytes of a number, least significant byte first (R62). -/
def leBytes : Nat → Nat → List Byte
  | 0, _ => []
  | n + 1, v => BitVec.ofNat 8 v :: leBytes n (v / 256)

/-! ### Fields (R92 to R97) -/

/-- A five-bit field as a register number. -/
def regOfBits (b : BitVec 5) : Reg := ⟨b.toNat, b.isLt⟩

/-- Op: bits 31 to 26. -/
def fieldOp (w : BitVec 32) : BitVec 6 := w.extractLsb' 26 6
/-- a: bits 25 to 21. -/
def fieldA (w : BitVec 32) : Reg := regOfBits (w.extractLsb' 21 5)
/-- b: bits 20 to 16. -/
def fieldB (w : BitVec 32) : Reg := regOfBits (w.extractLsb' 16 5)
/-- c: bits 9 to 5. -/
def fieldC (w : BitVec 32) : Reg := regOfBits (w.extractLsb' 5 5)
/-- d: bits 4 to 0. -/
def fieldD (w : BitVec 32) : Reg := regOfBits (w.extractLsb' 0 5)
/-- f: bits 15 to 12. -/
def fieldF (w : BitVec 32) : BitVec 4 := w.extractLsb' 12 4
/-- x, or the scale s: bits 11 to 10. -/
def fieldX (w : BitVec 32) : BitVec 2 := w.extractLsb' 10 2
/-- The five-bit f of the floating-point format: bits 15 to 11 (R96). -/
def fieldFpF (w : BitVec 32) : BitVec 5 := w.extractLsb' 11 5
/-- p: bit 10 (R96). -/
def fieldP (w : BitVec 32) : BitVec 1 := w.extractLsb' 10 1
/-- Imm26 and Offset26: bits 25 to 0. -/
def fieldImm26 (w : BitVec 32) : BitVec 26 := w.extractLsb' 0 26
/-- Offset16: bits 15 to 0. -/
def fieldOffset16 (w : BitVec 32) : BitVec 16 := w.extractLsb' 0 16
/-- UImm5: bits 20 to 16. -/
def fieldUImm5 (w : BitVec 32) : BitVec 5 := w.extractLsb' 16 5
/-- Imm12: bits 11 to 0. -/
def fieldImm12 (w : BitVec 32) : BitVec 12 := w.extractLsb' 0 12
/-- l: bits 11 to 6 (R94, R106). -/
def fieldL (w : BitVec 32) : BitVec 6 := w.extractLsb' 6 6
/-- r: bits 5 to 0 (R94, R106). -/
def fieldR (w : BitVec 32) : BitVec 6 := w.extractLsb' 0 6

/-! ### Decoding (R108 to R124) -/

/-- Why a word is no instruction. -/
inductive DecodeError where
  /-- The opcode number is in no table (R120). -/
  | undefinedOpcode (op : Nat)
  /-- The opcode is defined and its function code is not (R121). -/
  | undefinedFunction (op : Nat) (f x : Nat)
  /-- Fewer than four bytes were given. -/
  | truncated
  deriving DecidableEq, Repr

/-- The refusal of a function code in f and x. -/
def undefinedFX (w : BitVec 32) : Except DecodeError Instr :=
  .error (.undefinedFunction (fieldOp w).toNat (fieldF w).toNat (fieldX w).toNat)
/-- The refusal of a floating-point function code in f and p. -/
def undefinedFP (w : BitVec 32) : Except DecodeError Instr :=
  .error (.undefinedFunction (fieldOp w).toNat (fieldFpF w).toNat (fieldP w).toNat)

/-- LOAD (R109). -/
def decodeLoad (w : BitVec 32) : Except DecodeError Instr :=
  match (fieldF w).toNat with
  | 0 => .ok (.lbu (fieldA w) (fieldB w) (fieldImm12 w))
  | 1 => .ok (.lhu (fieldA w) (fieldB w) (fieldImm12 w))
  | 2 => .ok (.lwu (fieldA w) (fieldB w) (fieldImm12 w))
  | 3 => .ok (.ldu (fieldA w) (fieldB w) (fieldImm12 w))
  | 4 => .ok (.lb (fieldA w) (fieldB w) (fieldImm12 w))
  | 5 => .ok (.lh (fieldA w) (fieldB w) (fieldImm12 w))
  | 6 => .ok (.lw (fieldA w) (fieldB w) (fieldImm12 w))
  | 7 => .ok (.ld (fieldA w) (fieldB w) (fieldImm12 w))
  | _ => undefinedFX w

/-- STORE (R110). -/
def decodeStore (w : BitVec 32) : Except DecodeError Instr :=
  match (fieldF w).toNat with
  | 0 => .ok (.sb (fieldA w) (fieldB w) (fieldImm12 w))
  | 1 => .ok (.sh (fieldA w) (fieldB w) (fieldImm12 w))
  | 2 => .ok (.sw (fieldA w) (fieldB w) (fieldImm12 w))
  | 3 => .ok (.sd (fieldA w) (fieldB w) (fieldImm12 w))
  | _ => undefinedFX w

/-- LOADX (R109). -/
def decodeLoadX (w : BitVec 32) : Except DecodeError Instr :=
  match (fieldF w).toNat with
  | 0 => .ok (.lbuX (fieldA w) (fieldB w) ((fieldX w).toNat) (fieldD w))
  | 1 => .ok (.lhuX (fieldA w) (fieldB w) ((fieldX w).toNat) (fieldD w))
  | 2 => .ok (.lwuX (fieldA w) (fieldB w) ((fieldX w).toNat) (fieldD w))
  | 3 => .ok (.lduX (fieldA w) (fieldB w) ((fieldX w).toNat) (fieldD w))
  | 4 => .ok (.lbX (fieldA w) (fieldB w) ((fieldX w).toNat) (fieldD w))
  | 5 => .ok (.lhX (fieldA w) (fieldB w) ((fieldX w).toNat) (fieldD w))
  | 6 => .ok (.lwX (fieldA w) (fieldB w) ((fieldX w).toNat) (fieldD w))
  | 7 => .ok (.ldX (fieldA w) (fieldB w) ((fieldX w).toNat) (fieldD w))
  | _ => undefinedFX w

/-- STORX (R110). -/
def decodeStorX (w : BitVec 32) : Except DecodeError Instr :=
  match (fieldF w).toNat with
  | 0 => .ok (.sbX (fieldA w) (fieldB w) ((fieldX w).toNat) (fieldC w))
  | 1 => .ok (.shX (fieldA w) (fieldB w) ((fieldX w).toNat) (fieldC w))
  | 2 => .ok (.swX (fieldA w) (fieldB w) ((fieldX w).toNat) (fieldC w))
  | 3 => .ok (.sdX (fieldA w) (fieldB w) ((fieldX w).toNat) (fieldC w))
  | _ => undefinedFX w

/-- ALUI (R111). -/
def decodeAlui (w : BitVec 32) : Except DecodeError Instr :=
  match (fieldF w).toNat with
  | 0 => .ok (.addI (fieldA w) (fieldB w) (fieldImm12 w))
  | 1 => .ok (.naddI (fieldA w) (fieldB w) (fieldImm12 w))
  | 2 => .ok (.andI (fieldA w) (fieldB w) (fieldImm12 w))
  | 3 => .ok (.candI (fieldA w) (fieldB w) (fieldImm12 w))
  | 4 => .ok (.orI (fieldA w) (fieldB w) (fieldImm12 w))
  | 5 => .ok (.corI (fieldA w) (fieldB w) (fieldImm12 w))
  | 6 => .ok (.xorI (fieldA w) (fieldB w) (fieldImm12 w))
  | 7 => .ok (.setI (fieldA w) (fieldB w) (fieldImm12 w))
  | 8 => .ok (.eqI (fieldA w) (fieldB w) (fieldImm12 w))
  | 9 => .ok (.neI (fieldA w) (fieldB w) (fieldImm12 w))
  | 10 => .ok (.ltI (fieldA w) (fieldB w) (fieldImm12 w))
  | 11 => .ok (.geI (fieldA w) (fieldB w) (fieldImm12 w))
  | 12 => .ok (.ltuI (fieldA w) (fieldB w) (fieldImm12 w))
  | 13 => .ok (.geuI (fieldA w) (fieldB w) (fieldImm12 w))
  | 14 => .ok (.minI (fieldA w) (fieldB w) (fieldImm12 w))
  | 15 => .ok (.maxI (fieldA w) (fieldB w) (fieldImm12 w))
  | _ => undefinedFX w

/-- ALUI1 (R111). -/
def decodeAlui1 (w : BitVec 32) : Except DecodeError Instr :=
  match (fieldF w).toNat with
  | 0 => .ok (.addI1 (fieldA w) (fieldB w) (fieldImm12 w))
  | 1 => .ok (.naddI1 (fieldA w) (fieldB w) (fieldImm12 w))
  | 2 => .ok (.andI1 (fieldA w) (fieldB w) (fieldImm12 w))
  | 3 => .ok (.candI1 (fieldA w) (fieldB w) (fieldImm12 w))
  | 4 => .ok (.orI1 (fieldA w) (fieldB w) (fieldImm12 w))
  | 5 => .ok (.corI1 (fieldA w) (fieldB w) (fieldImm12 w))
  | 6 => .ok (.xorI1 (fieldA w) (fieldB w) (fieldImm12 w))
  | 7 => .ok (.setI1 (fieldA w) (fieldB w) (fieldImm12 w))
  | 8 => .ok (.eqI1 (fieldA w) (fieldB w) (fieldImm12 w))
  | 9 => .ok (.neI1 (fieldA w) (fieldB w) (fieldImm12 w))
  | 10 => .ok (.ltI1 (fieldA w) (fieldB w) (fieldImm12 w))
  | 11 => .ok (.geI1 (fieldA w) (fieldB w) (fieldImm12 w))
  | 12 => .ok (.ltuI1 (fieldA w) (fieldB w) (fieldImm12 w))
  | 13 => .ok (.geuI1 (fieldA w) (fieldB w) (fieldImm12 w))
  | 14 => .ok (.minI1 (fieldA w) (fieldB w) (fieldImm12 w))
  | 15 => .ok (.maxI1 (fieldA w) (fieldB w) (fieldImm12 w))
  | _ => undefinedFX w

/-- ALUI2 (R111). -/
def decodeAlui2 (w : BitVec 32) : Except DecodeError Instr :=
  match (fieldF w).toNat with
  | 0 => .ok (.addI2 (fieldA w) (fieldB w) (fieldImm12 w))
  | 1 => .ok (.naddI2 (fieldA w) (fieldB w) (fieldImm12 w))
  | 2 => .ok (.andI2 (fieldA w) (fieldB w) (fieldImm12 w))
  | 3 => .ok (.candI2 (fieldA w) (fieldB w) (fieldImm12 w))
  | 4 => .ok (.orI2 (fieldA w) (fieldB w) (fieldImm12 w))
  | 5 => .ok (.corI2 (fieldA w) (fieldB w) (fieldImm12 w))
  | 6 => .ok (.xorI2 (fieldA w) (fieldB w) (fieldImm12 w))
  | 7 => .ok (.setI2 (fieldA w) (fieldB w) (fieldImm12 w))
  | 8 => .ok (.eqI2 (fieldA w) (fieldB w) (fieldImm12 w))
  | 9 => .ok (.neI2 (fieldA w) (fieldB w) (fieldImm12 w))
  | 10 => .ok (.ltI2 (fieldA w) (fieldB w) (fieldImm12 w))
  | 11 => .ok (.geI2 (fieldA w) (fieldB w) (fieldImm12 w))
  | 12 => .ok (.ltuI2 (fieldA w) (fieldB w) (fieldImm12 w))
  | 13 => .ok (.geuI2 (fieldA w) (fieldB w) (fieldImm12 w))
  | 14 => .ok (.minI2 (fieldA w) (fieldB w) (fieldImm12 w))
  | 15 => .ok (.maxI2 (fieldA w) (fieldB w) (fieldImm12 w))
  | _ => undefinedFX w

/-- ALUI3 (R111). -/
def decodeAlui3 (w : BitVec 32) : Except DecodeError Instr :=
  match (fieldF w).toNat with
  | 0 => .ok (.addI3 (fieldA w) (fieldB w) (fieldImm12 w))
  | 1 => .ok (.naddI3 (fieldA w) (fieldB w) (fieldImm12 w))
  | 2 => .ok (.andI3 (fieldA w) (fieldB w) (fieldImm12 w))
  | 3 => .ok (.candI3 (fieldA w) (fieldB w) (fieldImm12 w))
  | 4 => .ok (.orI3 (fieldA w) (fieldB w) (fieldImm12 w))
  | 5 => .ok (.corI3 (fieldA w) (fieldB w) (fieldImm12 w))
  | 6 => .ok (.xorI3 (fieldA w) (fieldB w) (fieldImm12 w))
  | 7 => .ok (.setI3 (fieldA w) (fieldB w) (fieldImm12 w))
  | 8 => .ok (.eqI3 (fieldA w) (fieldB w) (fieldImm12 w))
  | 9 => .ok (.neI3 (fieldA w) (fieldB w) (fieldImm12 w))
  | 10 => .ok (.ltI3 (fieldA w) (fieldB w) (fieldImm12 w))
  | 11 => .ok (.geI3 (fieldA w) (fieldB w) (fieldImm12 w))
  | 12 => .ok (.ltuI3 (fieldA w) (fieldB w) (fieldImm12 w))
  | 13 => .ok (.geuI3 (fieldA w) (fieldB w) (fieldImm12 w))
  | 14 => .ok (.minI3 (fieldA w) (fieldB w) (fieldImm12 w))
  | 15 => .ok (.maxI3 (fieldA w) (fieldB w) (fieldImm12 w))
  | _ => undefinedFX w

/-- RET (R111). -/
def decodeRet (w : BitVec 32) : Except DecodeError Instr :=
  match (fieldF w).toNat with
  | 0 => .ok (.retAdd (fieldA w) (fieldB w) (fieldImm12 w))
  | 1 => .ok (.retNadd (fieldA w) (fieldB w) (fieldImm12 w))
  | 2 => .ok (.retAnd (fieldA w) (fieldB w) (fieldImm12 w))
  | 3 => .ok (.retCand (fieldA w) (fieldB w) (fieldImm12 w))
  | 4 => .ok (.retOr (fieldA w) (fieldB w) (fieldImm12 w))
  | 5 => .ok (.retCor (fieldA w) (fieldB w) (fieldImm12 w))
  | 6 => .ok (.retXor (fieldA w) (fieldB w) (fieldImm12 w))
  | 7 => .ok (.retSet (fieldA w) (fieldB w) (fieldImm12 w))
  | 8 => .ok (.retEq (fieldA w) (fieldB w) (fieldImm12 w))
  | 9 => .ok (.retNe (fieldA w) (fieldB w) (fieldImm12 w))
  | 10 => .ok (.retLt (fieldA w) (fieldB w) (fieldImm12 w))
  | 11 => .ok (.retGe (fieldA w) (fieldB w) (fieldImm12 w))
  | 12 => .ok (.retLtu (fieldA w) (fieldB w) (fieldImm12 w))
  | 13 => .ok (.retGeu (fieldA w) (fieldB w) (fieldImm12 w))
  | 14 => .ok (.retMin (fieldA w) (fieldB w) (fieldImm12 w))
  | 15 => .ok (.retMax (fieldA w) (fieldB w) (fieldImm12 w))
  | _ => undefinedFX w

/-- SHIFT (R112). -/
def decodeShift (w : BitVec 32) : Except DecodeError Instr :=
  match (fieldF w).toNat with
  | 0 => .ok (.shlr (fieldA w) (fieldB w) ((fieldL w).toNat) ((fieldR w).toNat))
  | 1 => .ok (.shlr1 (fieldA w) (fieldB w) ((fieldL w).toNat) ((fieldR w).toNat))
  | 2 => .ok (.salr (fieldA w) (fieldB w) ((fieldL w).toNat) ((fieldR w).toNat))
  | 3 => .ok (.rorI (fieldA w) (fieldB w) ((fieldR w).toNat))
  | 8 => .ok (.mulI (fieldA w) (fieldB w) (fieldImm12 w))
  | 12 => .ok (.divI (fieldA w) (fieldB w) (fieldImm12 w))
  | 13 => .ok (.modI (fieldA w) (fieldB w) (fieldImm12 w))
  | 14 => .ok (.divuI (fieldA w) (fieldB w) (fieldImm12 w))
  | 15 => .ok (.moduI (fieldA w) (fieldB w) (fieldImm12 w))
  | _ => undefinedFX w

/-- ALU with x = 0 (R113). -/
def decodeAlux0 (w : BitVec 32) : Except DecodeError Instr :=
  match (fieldF w).toNat with
  | 0 => .ok (.add (fieldA w) (fieldB w) (fieldD w))
  | 1 => .ok (.nadd (fieldA w) (fieldB w) (fieldD w))
  | 2 => .ok (.and (fieldA w) (fieldB w) (fieldD w))
  | 3 => .ok (.cand (fieldA w) (fieldB w) (fieldD w))
  | 4 => .ok (.or (fieldA w) (fieldB w) (fieldD w))
  | 5 => .ok (.cor (fieldA w) (fieldB w) (fieldD w))
  | 6 => .ok (.xor (fieldA w) (fieldB w) (fieldD w))
  | 7 => .ok (.xnor (fieldA w) (fieldB w) (fieldD w))
  | 8 => .ok (.eq (fieldA w) (fieldB w) (fieldD w))
  | 9 => .ok (.ne (fieldA w) (fieldB w) (fieldD w))
  | 10 => .ok (.lt (fieldA w) (fieldB w) (fieldD w))
  | 11 => .ok (.ge (fieldA w) (fieldB w) (fieldD w))
  | 12 => .ok (.ltu (fieldA w) (fieldB w) (fieldD w))
  | 13 => .ok (.geu (fieldA w) (fieldB w) (fieldD w))
  | 14 => .ok (.min (fieldA w) (fieldB w) (fieldD w))
  | 15 => .ok (.max (fieldA w) (fieldB w) (fieldD w))
  | _ => undefinedFX w

/-- ALU with x = 1 (R113). -/
def decodeAlux1 (w : BitVec 32) : Except DecodeError Instr :=
  match (fieldF w).toNat with
  | 0 => .ok (.shl (fieldA w) (fieldB w) (fieldD w))
  | 1 => .ok (.shr (fieldA w) (fieldB w) (fieldD w))
  | 2 => .ok (.sar (fieldA w) (fieldB w) (fieldD w))
  | 3 => .ok (.ror (fieldA w) (fieldB w) (fieldD w))
  | 8 => .ok (.mul (fieldA w) (fieldB w) (fieldD w))
  | 12 => .ok (.div (fieldA w) (fieldB w) (fieldD w))
  | 13 => .ok (.mod (fieldA w) (fieldB w) (fieldD w))
  | 14 => .ok (.divu (fieldA w) (fieldB w) (fieldD w))
  | 15 => .ok (.modu (fieldA w) (fieldB w) (fieldD w))
  | _ => undefinedFX w

/-- ALU: x selects the table (R113). -/
def decodeAlu (w : BitVec 32) : Except DecodeError Instr :=
  match (fieldX w).toNat with
  | 0 => decodeAlux0 w
  | 1 => decodeAlux1 w
  | 2 => .ok (.adds (fieldA w) (fieldB w) ((fieldF w).toNat) (fieldD w))
  | 3 => .ok (.nadds (fieldA w) (fieldB w) ((fieldF w).toNat) (fieldD w))
  | _ => undefinedFX w

/-- ALU3 with x = 0 (R114). -/
def decodeAlu3x0 (w : BitVec 32) : Except DecodeError Instr :=
  match (fieldF w).toNat with
  | 0 => .ok (.add3 (fieldA w) (fieldB w) (fieldC w) (fieldD w))
  | 1 => .ok (.nadd3 (fieldA w) (fieldB w) (fieldC w) (fieldD w))
  | 2 => .ok (.and3 (fieldA w) (fieldB w) (fieldC w) (fieldD w))
  | 3 => .ok (.cand3 (fieldA w) (fieldB w) (fieldC w) (fieldD w))
  | 4 => .ok (.or3 (fieldA w) (fieldB w) (fieldC w) (fieldD w))
  | 5 => .ok (.cor3 (fieldA w) (fieldB w) (fieldC w) (fieldD w))
  | 6 => .ok (.xor3 (fieldA w) (fieldB w) (fieldC w) (fieldD w))
  | 7 => .ok (.xnor3 (fieldA w) (fieldB w) (fieldC w) (fieldD w))
  | _ => undefinedFX w

/-- ALU3 with x = 1 (R114). -/
def decodeAlu3x1 (w : BitVec 32) : Except DecodeError Instr :=
  match (fieldF w).toNat with
  | 0 => .ok (.andeq (fieldA w) (fieldB w) (fieldC w) (fieldD w))
  | 1 => .ok (.andne (fieldA w) (fieldB w) (fieldC w) (fieldD w))
  | 2 => .ok (.andlt (fieldA w) (fieldB w) (fieldC w) (fieldD w))
  | 3 => .ok (.andge (fieldA w) (fieldB w) (fieldC w) (fieldD w))
  | 4 => .ok (.andltu (fieldA w) (fieldB w) (fieldC w) (fieldD w))
  | 5 => .ok (.andgeu (fieldA w) (fieldB w) (fieldC w) (fieldD w))
  | 6 => .ok (.minu3 (fieldA w) (fieldB w) (fieldC w) (fieldD w))
  | 7 => .ok (.maxu3 (fieldA w) (fieldB w) (fieldC w) (fieldD w))
  | 8 => .ok (.oreq (fieldA w) (fieldB w) (fieldC w) (fieldD w))
  | 9 => .ok (.orne (fieldA w) (fieldB w) (fieldC w) (fieldD w))
  | 10 => .ok (.orlt (fieldA w) (fieldB w) (fieldC w) (fieldD w))
  | 11 => .ok (.orge (fieldA w) (fieldB w) (fieldC w) (fieldD w))
  | 12 => .ok (.orltu (fieldA w) (fieldB w) (fieldC w) (fieldD w))
  | 13 => .ok (.orgeu (fieldA w) (fieldB w) (fieldC w) (fieldD w))
  | 14 => .ok (.min3 (fieldA w) (fieldB w) (fieldC w) (fieldD w))
  | 15 => .ok (.max3 (fieldA w) (fieldB w) (fieldC w) (fieldD w))
  | _ => undefinedFX w

/-- ALU3 with x = 2 (R114). -/
def decodeAlu3x2 (w : BitVec 32) : Except DecodeError Instr :=
  match (fieldF w).toNat with
  | 0 => .ok (.sel (fieldA w) (fieldB w) (fieldC w) (fieldD w))
  | 1 => .ok (.seln (fieldA w) (fieldB w) (fieldC w) (fieldD w))
  | 2 => .ok (.selp (fieldA w) (fieldB w) (fieldC w) (fieldD w))
  | 4 => .ok (.madd (fieldA w) (fieldB w) (fieldC w) (fieldD w))
  | 5 => .ok (.nmadd (fieldA w) (fieldB w) (fieldC w) (fieldD w))
  | _ => undefinedFX w

/-- ALU3: x selects the table (R114). -/
def decodeAlu3 (w : BitVec 32) : Except DecodeError Instr :=
  match (fieldX w).toNat with
  | 0 => decodeAlu3x0 w
  | 1 => decodeAlu3x1 w
  | 2 => decodeAlu3x2 w
  | _ => undefinedFX w

/-- FPU1 with p = 0 (R115). -/
def decodeFpu1p0 (w : BitVec 32) : Except DecodeError Instr :=
  match (fieldFpF w).toNat with
  | 0 => .ok (.absS (fieldA w) (fieldD w))
  | 1 => .ok (.negS (fieldA w) (fieldD w))
  | 2 => .ok (.sqrtS (fieldA w) (fieldD w))
  | 4 => .ok (.cvtSD (fieldA w) (fieldD w))
  | 5 => .ok (.cvtSI (fieldA w) (fieldD w))
  | 6 => .ok (.cvtIS (fieldA w) (fieldD w))
  | 7 => .ok (.rintS (fieldA w) (fieldD w))
  | _ => undefinedFP w

/-- FPU1 with p = 1 (R115). -/
def decodeFpu1p1 (w : BitVec 32) : Except DecodeError Instr :=
  match (fieldFpF w).toNat with
  | 0 => .ok (.absD (fieldA w) (fieldD w))
  | 1 => .ok (.negD (fieldA w) (fieldD w))
  | 2 => .ok (.sqrtD (fieldA w) (fieldD w))
  | 4 => .ok (.cvtDS (fieldA w) (fieldD w))
  | 5 => .ok (.cvtDI (fieldA w) (fieldD w))
  | 6 => .ok (.cvtID (fieldA w) (fieldD w))
  | 7 => .ok (.rintD (fieldA w) (fieldD w))
  | _ => undefinedFP w

/-- FPU1: p selects the precision (R115). -/
def decodeFpu1 (w : BitVec 32) : Except DecodeError Instr :=
  if fieldP w = 0 then decodeFpu1p0 w else decodeFpu1p1 w

/-- FPU2 with p = 0 (R116). -/
def decodeFpu2p0 (w : BitVec 32) : Except DecodeError Instr :=
  match (fieldFpF w).toNat with
  | 0 => .ok (.eqS (fieldA w) (fieldB w) (fieldD w))
  | 1 => .ok (.neS (fieldA w) (fieldB w) (fieldD w))
  | 2 => .ok (.ltS (fieldA w) (fieldB w) (fieldD w))
  | 3 => .ok (.geS (fieldA w) (fieldB w) (fieldD w))
  | 4 => .ok (.infS (fieldA w) (fieldB w) (fieldD w))
  | 5 => .ok (.nanS (fieldA w) (fieldB w) (fieldD w))
  | 8 => .ok (.addS (fieldA w) (fieldB w) (fieldD w))
  | 9 => .ok (.naddS (fieldA w) (fieldB w) (fieldD w))
  | 10 => .ok (.mulS (fieldA w) (fieldB w) (fieldD w))
  | 11 => .ok (.divS (fieldA w) (fieldB w) (fieldD w))
  | 12 => .ok (.minS (fieldA w) (fieldB w) (fieldD w))
  | 13 => .ok (.maxS (fieldA w) (fieldB w) (fieldD w))
  | _ => undefinedFP w

/-- FPU2 with p = 1 (R116). -/
def decodeFpu2p1 (w : BitVec 32) : Except DecodeError Instr :=
  match (fieldFpF w).toNat with
  | 0 => .ok (.eqD (fieldA w) (fieldB w) (fieldD w))
  | 1 => .ok (.neD (fieldA w) (fieldB w) (fieldD w))
  | 2 => .ok (.ltD (fieldA w) (fieldB w) (fieldD w))
  | 3 => .ok (.geD (fieldA w) (fieldB w) (fieldD w))
  | 4 => .ok (.infD (fieldA w) (fieldB w) (fieldD w))
  | 5 => .ok (.nanD (fieldA w) (fieldB w) (fieldD w))
  | 8 => .ok (.addD (fieldA w) (fieldB w) (fieldD w))
  | 9 => .ok (.naddD (fieldA w) (fieldB w) (fieldD w))
  | 10 => .ok (.mulD (fieldA w) (fieldB w) (fieldD w))
  | 11 => .ok (.divD (fieldA w) (fieldB w) (fieldD w))
  | 12 => .ok (.minD (fieldA w) (fieldB w) (fieldD w))
  | 13 => .ok (.maxD (fieldA w) (fieldB w) (fieldD w))
  | _ => undefinedFP w

/-- FPU2: p selects the precision (R116). There is no code for GT and LE, which are LT and GE with a and b exchanged, none for an
unordered compare, which NAN serves for (R386), and none for SUB, which is NADD with a and b exchanged, nor for a remainder or a
reciprocal (R399). -/
def decodeFpu2 (w : BitVec 32) : Except DecodeError Instr :=
  if fieldP w = 0 then decodeFpu2p0 w else decodeFpu2p1 w

/-- FPU3 with p = 0 (R117). -/
noncomputable def decodeFpu3p0 (w : BitVec 32) : Except DecodeError Instr :=
  match (fieldFpF w).toNat with
  | 0 => .ok (.andeqS (fieldA w) (fieldB w) (fieldC w) (fieldD w))
  | 1 => .ok (.andneS (fieldA w) (fieldB w) (fieldC w) (fieldD w))
  | 2 => .ok (.andltS (fieldA w) (fieldB w) (fieldC w) (fieldD w))
  | 3 => .ok (.andgeS (fieldA w) (fieldB w) (fieldC w) (fieldD w))
  | 4 => .ok (.oreqS (fieldA w) (fieldB w) (fieldC w) (fieldD w))
  | 5 => .ok (.orneS (fieldA w) (fieldB w) (fieldC w) (fieldD w))
  | 6 => .ok (.orltS (fieldA w) (fieldB w) (fieldC w) (fieldD w))
  | 7 => .ok (.orgeS (fieldA w) (fieldB w) (fieldC w) (fieldD w))
  | 8 => .ok (.add3S (fieldA w) (fieldB w) (fieldC w) (fieldD w))
  | 9 => .ok (.nadd3S (fieldA w) (fieldB w) (fieldC w) (fieldD w))
  | 10 => .ok (.maddS (fieldA w) (fieldB w) (fieldC w) (fieldD w))
  | 11 => .ok (.nmaddS (fieldA w) (fieldB w) (fieldC w) (fieldD w))
  | 12 => .ok (.min3S (fieldA w) (fieldB w) (fieldC w) (fieldD w))
  | 13 => .ok (.max3S (fieldA w) (fieldB w) (fieldC w) (fieldD w))
  | _ => undefinedFP w

/-- FPU3 with p = 1 (R117). -/
noncomputable def decodeFpu3p1 (w : BitVec 32) : Except DecodeError Instr :=
  match (fieldFpF w).toNat with
  | 0 => .ok (.andeqD (fieldA w) (fieldB w) (fieldC w) (fieldD w))
  | 1 => .ok (.andneD (fieldA w) (fieldB w) (fieldC w) (fieldD w))
  | 2 => .ok (.andltD (fieldA w) (fieldB w) (fieldC w) (fieldD w))
  | 3 => .ok (.andgeD (fieldA w) (fieldB w) (fieldC w) (fieldD w))
  | 4 => .ok (.oreqD (fieldA w) (fieldB w) (fieldC w) (fieldD w))
  | 5 => .ok (.orneD (fieldA w) (fieldB w) (fieldC w) (fieldD w))
  | 6 => .ok (.orltD (fieldA w) (fieldB w) (fieldC w) (fieldD w))
  | 7 => .ok (.orgeD (fieldA w) (fieldB w) (fieldC w) (fieldD w))
  | 8 => .ok (.add3D (fieldA w) (fieldB w) (fieldC w) (fieldD w))
  | 9 => .ok (.nadd3D (fieldA w) (fieldB w) (fieldC w) (fieldD w))
  | 10 => .ok (.maddD (fieldA w) (fieldB w) (fieldC w) (fieldD w))
  | 11 => .ok (.nmaddD (fieldA w) (fieldB w) (fieldC w) (fieldD w))
  | 12 => .ok (.min3D (fieldA w) (fieldB w) (fieldC w) (fieldD w))
  | 13 => .ok (.max3D (fieldA w) (fieldB w) (fieldC w) (fieldD w))
  | _ => undefinedFP w

/-- FPU3: p selects the precision (R117). -/
noncomputable def decodeFpu3 (w : BitVec 32) : Except DecodeError Instr :=
  if fieldP w = 0 then decodeFpu3p0 w else decodeFpu3p1 w

/-- SYS (R118). -/
noncomputable def decodeSys (w : BitVec 32) : Except DecodeError Instr :=
  match (fieldF w).toNat with
  | 0 => .ok (.scall (fieldImm12 w))
  | 1 => .ok (.dcall (fieldImm12 w))
  | 2 => .ok (.sret (fieldImm12 w))
  | _ => undefinedFX w

/-- MOV: the pair (f, x) is the function code (R119, R440). -/
noncomputable def decodeMov (w : BitVec 32) : Except DecodeError Instr :=
  match (fieldF w).toNat, (fieldX w).toNat with
  | 0, 0 => .ok (.movrc (fieldA w) (fieldD w))
  | 0, 1 => .ok (.movec (fieldA w) (fieldD w))
  | 1, 1 => .ok (.mover (fieldA w) (fieldD w))
  | 2, 1 => .ok (.movre (fieldA w) (fieldD w))
  | _, _ => undefinedFX w

/-- The opcodes other than NOP's (R108); the rest are undefined (R120). -/
noncomputable def decodeOpcode (w : BitVec 32) : Except DecodeError Instr :=
  match (fieldOp w).toNat with
  | 2 => .ok (.j (fieldImm26 w))
  | 3 => .ok (.jal (fieldImm26 w))
  | 8 => .ok (.beqi (fieldA w) (fieldUImm5 w) (fieldOffset16 w))
  | 9 => .ok (.bnei (fieldA w) (fieldUImm5 w) (fieldOffset16 w))
  | 10 => .ok (.blti (fieldA w) (fieldUImm5 w) (fieldOffset16 w))
  | 11 => .ok (.bgei (fieldA w) (fieldUImm5 w) (fieldOffset16 w))
  | 12 => .ok (.bltui (fieldA w) (fieldUImm5 w) (fieldOffset16 w))
  | 13 => .ok (.bgeui (fieldA w) (fieldUImm5 w) (fieldOffset16 w))
  | 14 => .ok (.jr (fieldA w) (fieldOffset16 w))
  | 15 => .ok (.jalr (fieldA w) (fieldB w) (fieldOffset16 w))
  | 16 => .ok (.beq (fieldA w) (fieldB w) (fieldOffset16 w))
  | 17 => .ok (.bne (fieldA w) (fieldB w) (fieldOffset16 w))
  | 18 => .ok (.blt (fieldA w) (fieldB w) (fieldOffset16 w))
  | 19 => .ok (.bge (fieldA w) (fieldB w) (fieldOffset16 w))
  | 20 => .ok (.bltu (fieldA w) (fieldB w) (fieldOffset16 w))
  | 21 => .ok (.bgeu (fieldA w) (fieldB w) (fieldOffset16 w))
  | 22 => .ok (.loop (fieldA w) (fieldB w) (fieldOffset16 w))
  | 23 => .ok (.loopd (fieldA w) (fieldB w) (fieldOffset16 w))
  | 24 => decodeLoad w
  | 25 => decodeStore w
  | 26 => decodeLoadX w
  | 27 => decodeStorX w
  | 32 => decodeAlui w
  | 33 => decodeAlui1 w
  | 34 => decodeAlui2 w
  | 35 => decodeAlui3 w
  | 36 => decodeRet w
  | 37 => decodeShift w
  | 40 => decodeAlu w
  | 41 => decodeAlu3 w
  | 42 => decodeFpu1 w
  | 43 => decodeFpu2 w
  | 44 => decodeFpu3 w
  | 60 => decodeSys w
  | 61 => decodeMov w
  | op => .error (.undefinedOpcode op)

/-- THE DECODER, for a value of `OP_NOP`: the instruction a word stands for, or the name of what is undefined in it (R97, R124). The words that follow an
ALUI1, ALUI2 or ALUI3 are no part of it: the instruction reads them when it executes (R90, R256). -/
noncomputable def decode (nop : Config.NopCode) (w : BitVec 32) : Except DecodeError Instr :=
  if fieldOp w = nop.code then .ok (.nop (fieldImm26 w)) else decodeOpcode w

/-- The decoder on bytes: four of them make an instruction word, least significant first (R63, R90), and the rest is left. -/
noncomputable def decodeBytes (nop : Config.NopCode) (bytes : List Byte) : Except DecodeError (Instr × List Byte) :=
  match bytes with
  | b0 :: b1 :: b2 :: b3 :: rest =>
    match decode nop (BitVec.ofNat 32 (leNat [b0, b1, b2, b3])) with
    | .ok i => .ok (i, rest)
    | .error e => .error e
  | _ => .error .truncated

/-- The bytes of an instruction whose bits are `w` as the opcode table numbers them, up to the longest form: three words, the
words above `nbits` zero, each with its least significant byte first. -/
def tableBytes (nbits w : Nat) : List Byte := leBytes 12 (w % 2 ^ nbits)

/-- The instruction that the decoder reads from an instruction whose bits are `w`, numbered as the opcode table numbers them,
with `OP_NOP` at its default. -/
noncomputable def decodeTableWord (nbits w : Nat) : Option Instr :=
  match decodeBytes Config.opNop (tableBytes nbits w) with
  | .ok (i, _) => some i
  | .error _ => none

/-! ### Encoding -/

/-- A register number as a five-bit field. -/
def regBits (r : Reg) : BitVec 5 := BitVec.ofNat 5 r.val

/-- J format (R92, R97). -/
def formatJ (op : BitVec 6) (imm : BitVec 26) : BitVec 32 := op ++ imm
/-- B format with a register in bits 20 to 16 (R93). -/
def formatB (op : BitVec 6) (a b : Reg) (off : BitVec 16) : BitVec 32 := op ++ regBits a ++ regBits b ++ off
/-- B format with UImm5 in bits 20 to 16 (R93). -/
def formatBI (op : BitVec 6) (a : Reg) (imm : BitVec 5) (off : BitVec 16) : BitVec 32 := op ++ regBits a ++ imm ++ off
/-- I format (R94). -/
def formatI (op : BitVec 6) (f : BitVec 4) (a b : Reg) (imm : BitVec 12) : BitVec 32 := op ++ regBits a ++ regBits b ++ f ++ imm
/-- I format of SHIFT with two six-bit amounts (R94). -/
def formatShift (op : BitVec 6) (f : BitVec 4) (a b : Reg) (l r : Nat) : BitVec 32 :=
  op ++ regBits a ++ regBits b ++ f ++ BitVec.ofNat 6 l ++ BitVec.ofNat 6 r
/-- R format (R95). -/
def formatR (op : BitVec 6) (f : BitVec 4) (x : BitVec 2) (a b c d : Reg) : BitVec 32 :=
  op ++ regBits a ++ regBits b ++ f ++ x ++ regBits c ++ regBits d
/-- Floating-point R format (R96). -/
def formatFP (op : BitVec 6) (f : BitVec 5) (p : BitVec 1) (a b c d : Reg) : BitVec 32 :=
  op ++ regBits a ++ regBits b ++ f ++ p ++ regBits c ++ regBits d

/-- THE ENCODER, for a value of `OP_NOP` (R97): the instruction word of a well-formed instruction, every ignored field 0 (R100). The NOPs that carry a long
immediate are instructions of their own (R90). -/
def encode (nop : Config.NopCode) : Instr → BitVec 32
  | .nop imm => formatJ nop.code imm
  | .j off => formatJ 2 off
  | .jal off => formatJ 3 off
  | .beq a b off => formatB 16 a b off
  | .bne a b off => formatB 17 a b off
  | .blt a b off => formatB 18 a b off
  | .bge a b off => formatB 19 a b off
  | .bltu a b off => formatB 20 a b off
  | .bgeu a b off => formatB 21 a b off
  | .beqi a imm off => formatBI 8 a imm off
  | .bnei a imm off => formatBI 9 a imm off
  | .blti a imm off => formatBI 10 a imm off
  | .bgei a imm off => formatBI 11 a imm off
  | .bltui a imm off => formatBI 12 a imm off
  | .bgeui a imm off => formatBI 13 a imm off
  | .loop a b off => formatB 22 a b off
  | .loopd a b off => formatB 23 a b off
  | .jr a off => formatB 14 a 0 off
  | .jalr a b off => formatB 15 a b off
  | .lbu a b imm => formatI 24 0 a b imm
  | .lhu a b imm => formatI 24 1 a b imm
  | .lwu a b imm => formatI 24 2 a b imm
  | .ldu a b imm => formatI 24 3 a b imm
  | .lb a b imm => formatI 24 4 a b imm
  | .lh a b imm => formatI 24 5 a b imm
  | .lw a b imm => formatI 24 6 a b imm
  | .ld a b imm => formatI 24 7 a b imm
  | .sb a b imm => formatI 25 0 a b imm
  | .sh a b imm => formatI 25 1 a b imm
  | .sw a b imm => formatI 25 2 a b imm
  | .sd a b imm => formatI 25 3 a b imm
  | .lbuX a b sc d => formatR 26 0 (BitVec.ofNat 2 sc) a b 0 d
  | .lhuX a b sc d => formatR 26 1 (BitVec.ofNat 2 sc) a b 0 d
  | .lwuX a b sc d => formatR 26 2 (BitVec.ofNat 2 sc) a b 0 d
  | .lduX a b sc d => formatR 26 3 (BitVec.ofNat 2 sc) a b 0 d
  | .lbX a b sc d => formatR 26 4 (BitVec.ofNat 2 sc) a b 0 d
  | .lhX a b sc d => formatR 26 5 (BitVec.ofNat 2 sc) a b 0 d
  | .lwX a b sc d => formatR 26 6 (BitVec.ofNat 2 sc) a b 0 d
  | .ldX a b sc d => formatR 26 7 (BitVec.ofNat 2 sc) a b 0 d
  | .sbX a b sc c => formatR 27 0 (BitVec.ofNat 2 sc) a b c 0
  | .shX a b sc c => formatR 27 1 (BitVec.ofNat 2 sc) a b c 0
  | .swX a b sc c => formatR 27 2 (BitVec.ofNat 2 sc) a b c 0
  | .sdX a b sc c => formatR 27 3 (BitVec.ofNat 2 sc) a b c 0
  | .addI a b imm => formatI 32 0 a b imm
  | .naddI a b imm => formatI 32 1 a b imm
  | .andI a b imm => formatI 32 2 a b imm
  | .candI a b imm => formatI 32 3 a b imm
  | .orI a b imm => formatI 32 4 a b imm
  | .corI a b imm => formatI 32 5 a b imm
  | .xorI a b imm => formatI 32 6 a b imm
  | .setI a b imm => formatI 32 7 a b imm
  | .eqI a b imm => formatI 32 8 a b imm
  | .neI a b imm => formatI 32 9 a b imm
  | .ltI a b imm => formatI 32 10 a b imm
  | .geI a b imm => formatI 32 11 a b imm
  | .ltuI a b imm => formatI 32 12 a b imm
  | .geuI a b imm => formatI 32 13 a b imm
  | .minI a b imm => formatI 32 14 a b imm
  | .maxI a b imm => formatI 32 15 a b imm
  | .addI1 a b imm => formatI 33 0 a b imm
  | .naddI1 a b imm => formatI 33 1 a b imm
  | .andI1 a b imm => formatI 33 2 a b imm
  | .candI1 a b imm => formatI 33 3 a b imm
  | .orI1 a b imm => formatI 33 4 a b imm
  | .corI1 a b imm => formatI 33 5 a b imm
  | .xorI1 a b imm => formatI 33 6 a b imm
  | .setI1 a b imm => formatI 33 7 a b imm
  | .eqI1 a b imm => formatI 33 8 a b imm
  | .neI1 a b imm => formatI 33 9 a b imm
  | .ltI1 a b imm => formatI 33 10 a b imm
  | .geI1 a b imm => formatI 33 11 a b imm
  | .ltuI1 a b imm => formatI 33 12 a b imm
  | .geuI1 a b imm => formatI 33 13 a b imm
  | .minI1 a b imm => formatI 33 14 a b imm
  | .maxI1 a b imm => formatI 33 15 a b imm
  | .addI2 a b imm => formatI 34 0 a b imm
  | .naddI2 a b imm => formatI 34 1 a b imm
  | .andI2 a b imm => formatI 34 2 a b imm
  | .candI2 a b imm => formatI 34 3 a b imm
  | .orI2 a b imm => formatI 34 4 a b imm
  | .corI2 a b imm => formatI 34 5 a b imm
  | .xorI2 a b imm => formatI 34 6 a b imm
  | .setI2 a b imm => formatI 34 7 a b imm
  | .eqI2 a b imm => formatI 34 8 a b imm
  | .neI2 a b imm => formatI 34 9 a b imm
  | .ltI2 a b imm => formatI 34 10 a b imm
  | .geI2 a b imm => formatI 34 11 a b imm
  | .ltuI2 a b imm => formatI 34 12 a b imm
  | .geuI2 a b imm => formatI 34 13 a b imm
  | .minI2 a b imm => formatI 34 14 a b imm
  | .maxI2 a b imm => formatI 34 15 a b imm
  | .addI3 a b imm => formatI 35 0 a b imm
  | .naddI3 a b imm => formatI 35 1 a b imm
  | .andI3 a b imm => formatI 35 2 a b imm
  | .candI3 a b imm => formatI 35 3 a b imm
  | .orI3 a b imm => formatI 35 4 a b imm
  | .corI3 a b imm => formatI 35 5 a b imm
  | .xorI3 a b imm => formatI 35 6 a b imm
  | .setI3 a b imm => formatI 35 7 a b imm
  | .eqI3 a b imm => formatI 35 8 a b imm
  | .neI3 a b imm => formatI 35 9 a b imm
  | .ltI3 a b imm => formatI 35 10 a b imm
  | .geI3 a b imm => formatI 35 11 a b imm
  | .ltuI3 a b imm => formatI 35 12 a b imm
  | .geuI3 a b imm => formatI 35 13 a b imm
  | .minI3 a b imm => formatI 35 14 a b imm
  | .maxI3 a b imm => formatI 35 15 a b imm
  | .retAdd a b imm => formatI 36 0 a b imm
  | .retNadd a b imm => formatI 36 1 a b imm
  | .retAnd a b imm => formatI 36 2 a b imm
  | .retCand a b imm => formatI 36 3 a b imm
  | .retOr a b imm => formatI 36 4 a b imm
  | .retCor a b imm => formatI 36 5 a b imm
  | .retXor a b imm => formatI 36 6 a b imm
  | .retSet a b imm => formatI 36 7 a b imm
  | .retEq a b imm => formatI 36 8 a b imm
  | .retNe a b imm => formatI 36 9 a b imm
  | .retLt a b imm => formatI 36 10 a b imm
  | .retGe a b imm => formatI 36 11 a b imm
  | .retLtu a b imm => formatI 36 12 a b imm
  | .retGeu a b imm => formatI 36 13 a b imm
  | .retMin a b imm => formatI 36 14 a b imm
  | .retMax a b imm => formatI 36 15 a b imm
  | .shlr a b l r => formatShift 37 0 a b l r
  | .shlr1 a b l r => formatShift 37 1 a b l r
  | .salr a b l r => formatShift 37 2 a b l r
  | .rorI a b r => formatShift 37 3 a b 0 r
  | .mulI a b imm => formatI 37 8 a b imm
  | .divI a b imm => formatI 37 12 a b imm
  | .modI a b imm => formatI 37 13 a b imm
  | .divuI a b imm => formatI 37 14 a b imm
  | .moduI a b imm => formatI 37 15 a b imm
  | .add a b d => formatR 40 0 0 a b 0 d
  | .nadd a b d => formatR 40 1 0 a b 0 d
  | .and a b d => formatR 40 2 0 a b 0 d
  | .cand a b d => formatR 40 3 0 a b 0 d
  | .or a b d => formatR 40 4 0 a b 0 d
  | .cor a b d => formatR 40 5 0 a b 0 d
  | .xor a b d => formatR 40 6 0 a b 0 d
  | .xnor a b d => formatR 40 7 0 a b 0 d
  | .eq a b d => formatR 40 8 0 a b 0 d
  | .ne a b d => formatR 40 9 0 a b 0 d
  | .lt a b d => formatR 40 10 0 a b 0 d
  | .ge a b d => formatR 40 11 0 a b 0 d
  | .ltu a b d => formatR 40 12 0 a b 0 d
  | .geu a b d => formatR 40 13 0 a b 0 d
  | .min a b d => formatR 40 14 0 a b 0 d
  | .max a b d => formatR 40 15 0 a b 0 d
  | .shl a b d => formatR 40 0 1 a b 0 d
  | .shr a b d => formatR 40 1 1 a b 0 d
  | .sar a b d => formatR 40 2 1 a b 0 d
  | .ror a b d => formatR 40 3 1 a b 0 d
  | .mul a b d => formatR 40 8 1 a b 0 d
  | .div a b d => formatR 40 12 1 a b 0 d
  | .mod a b d => formatR 40 13 1 a b 0 d
  | .divu a b d => formatR 40 14 1 a b 0 d
  | .modu a b d => formatR 40 15 1 a b 0 d
  | .adds a b n d => formatR 40 (BitVec.ofNat 4 n) 2 a b 0 d
  | .nadds a b n d => formatR 40 (BitVec.ofNat 4 n) 3 a b 0 d
  | .add3 a b c d => formatR 41 0 0 a b c d
  | .nadd3 a b c d => formatR 41 1 0 a b c d
  | .and3 a b c d => formatR 41 2 0 a b c d
  | .cand3 a b c d => formatR 41 3 0 a b c d
  | .or3 a b c d => formatR 41 4 0 a b c d
  | .cor3 a b c d => formatR 41 5 0 a b c d
  | .xor3 a b c d => formatR 41 6 0 a b c d
  | .xnor3 a b c d => formatR 41 7 0 a b c d
  | .andeq a b c d => formatR 41 0 1 a b c d
  | .andne a b c d => formatR 41 1 1 a b c d
  | .andlt a b c d => formatR 41 2 1 a b c d
  | .andge a b c d => formatR 41 3 1 a b c d
  | .andltu a b c d => formatR 41 4 1 a b c d
  | .andgeu a b c d => formatR 41 5 1 a b c d
  | .minu3 a b c d => formatR 41 6 1 a b c d
  | .maxu3 a b c d => formatR 41 7 1 a b c d
  | .oreq a b c d => formatR 41 8 1 a b c d
  | .orne a b c d => formatR 41 9 1 a b c d
  | .orlt a b c d => formatR 41 10 1 a b c d
  | .orge a b c d => formatR 41 11 1 a b c d
  | .orltu a b c d => formatR 41 12 1 a b c d
  | .orgeu a b c d => formatR 41 13 1 a b c d
  | .min3 a b c d => formatR 41 14 1 a b c d
  | .max3 a b c d => formatR 41 15 1 a b c d
  | .sel a b c d => formatR 41 0 2 a b c d
  | .seln a b c d => formatR 41 1 2 a b c d
  | .selp a b c d => formatR 41 2 2 a b c d
  | .madd a b c d => formatR 41 4 2 a b c d
  | .nmadd a b c d => formatR 41 5 2 a b c d
  | .absS a d => formatFP 42 0 0 a 0 0 d
  | .absD a d => formatFP 42 0 1 a 0 0 d
  | .negS a d => formatFP 42 1 0 a 0 0 d
  | .negD a d => formatFP 42 1 1 a 0 0 d
  | .sqrtS a d => formatFP 42 2 0 a 0 0 d
  | .sqrtD a d => formatFP 42 2 1 a 0 0 d
  | .cvtSD a d => formatFP 42 4 0 a 0 0 d
  | .cvtDS a d => formatFP 42 4 1 a 0 0 d
  | .cvtSI a d => formatFP 42 5 0 a 0 0 d
  | .cvtDI a d => formatFP 42 5 1 a 0 0 d
  | .cvtIS a d => formatFP 42 6 0 a 0 0 d
  | .cvtID a d => formatFP 42 6 1 a 0 0 d
  | .rintS a d => formatFP 42 7 0 a 0 0 d
  | .rintD a d => formatFP 42 7 1 a 0 0 d
  | .eqS a b d => formatFP 43 0 0 a b 0 d
  | .eqD a b d => formatFP 43 0 1 a b 0 d
  | .neS a b d => formatFP 43 1 0 a b 0 d
  | .neD a b d => formatFP 43 1 1 a b 0 d
  | .ltS a b d => formatFP 43 2 0 a b 0 d
  | .ltD a b d => formatFP 43 2 1 a b 0 d
  | .geS a b d => formatFP 43 3 0 a b 0 d
  | .geD a b d => formatFP 43 3 1 a b 0 d
  | .infS a b d => formatFP 43 4 0 a b 0 d
  | .infD a b d => formatFP 43 4 1 a b 0 d
  | .nanS a b d => formatFP 43 5 0 a b 0 d
  | .nanD a b d => formatFP 43 5 1 a b 0 d
  | .addS a b d => formatFP 43 8 0 a b 0 d
  | .addD a b d => formatFP 43 8 1 a b 0 d
  | .naddS a b d => formatFP 43 9 0 a b 0 d
  | .naddD a b d => formatFP 43 9 1 a b 0 d
  | .mulS a b d => formatFP 43 10 0 a b 0 d
  | .mulD a b d => formatFP 43 10 1 a b 0 d
  | .divS a b d => formatFP 43 11 0 a b 0 d
  | .divD a b d => formatFP 43 11 1 a b 0 d
  | .minS a b d => formatFP 43 12 0 a b 0 d
  | .minD a b d => formatFP 43 12 1 a b 0 d
  | .maxS a b d => formatFP 43 13 0 a b 0 d
  | .maxD a b d => formatFP 43 13 1 a b 0 d
  | .andeqS a b c d => formatFP 44 0 0 a b c d
  | .andeqD a b c d => formatFP 44 0 1 a b c d
  | .andneS a b c d => formatFP 44 1 0 a b c d
  | .andneD a b c d => formatFP 44 1 1 a b c d
  | .andltS a b c d => formatFP 44 2 0 a b c d
  | .andltD a b c d => formatFP 44 2 1 a b c d
  | .andgeS a b c d => formatFP 44 3 0 a b c d
  | .andgeD a b c d => formatFP 44 3 1 a b c d
  | .oreqS a b c d => formatFP 44 4 0 a b c d
  | .oreqD a b c d => formatFP 44 4 1 a b c d
  | .orneS a b c d => formatFP 44 5 0 a b c d
  | .orneD a b c d => formatFP 44 5 1 a b c d
  | .orltS a b c d => formatFP 44 6 0 a b c d
  | .orltD a b c d => formatFP 44 6 1 a b c d
  | .orgeS a b c d => formatFP 44 7 0 a b c d
  | .orgeD a b c d => formatFP 44 7 1 a b c d
  | .add3S a b c d => formatFP 44 8 0 a b c d
  | .add3D a b c d => formatFP 44 8 1 a b c d
  | .nadd3S a b c d => formatFP 44 9 0 a b c d
  | .nadd3D a b c d => formatFP 44 9 1 a b c d
  | .maddS a b c d => formatFP 44 10 0 a b c d
  | .maddD a b c d => formatFP 44 10 1 a b c d
  | .nmaddS a b c d => formatFP 44 11 0 a b c d
  | .nmaddD a b c d => formatFP 44 11 1 a b c d
  | .min3S a b c d => formatFP 44 12 0 a b c d
  | .min3D a b c d => formatFP 44 12 1 a b c d
  | .max3S a b c d => formatFP 44 13 0 a b c d
  | .max3D a b c d => formatFP 44 13 1 a b c d
  | .scall imm => formatI 60 0 0 0 imm
  | .dcall imm => formatI 60 1 0 0 imm
  | .sret imm => formatI 60 2 0 0 imm
  | .movrc a d => formatR 61 0 0 a 0 0 d
  | .movec a d => formatR 61 0 1 a 0 0 d
  | .mover a d => formatR 61 1 1 a 0 0 d
  | .movre a d => formatR 61 2 1 a 0 0 d

end Sys2Proof
end

