-- ==== Sys2Proof/Machine/State.lean ====
section
/-! DEFINITION. The state of the machine as plain data, what stops it, and the state after reset. -/

namespace Sys2Proof.Machine

open Sys2Proof

/-- Memory: the bytes that have a value, as (address, byte) pairs with addresses strictly rising. A byte that is not listed
has no value (R501). -/
abbrev Memory := List Host.Cell

/-- The three kinds of access that `access_ok` tells apart (R4, R70). -/
inductive AccessKind where
  | fetch | load | store
  deriving DecidableEq, Repr

/-- One entry of the platform's protection (R70, D21): an access of this kind and size made at this execution level is refused
when its address lies between `first` and `last`, both included. A `size` of none stands for every size. -/
structure Denial where
  level : BitVec 2
  kind : AccessKind
  size : Option Nat
  first : Word
  last : Word
  deriving DecidableEq, Repr

/-- The whole state. The registers are those of R20 to R43. `addrBits`, `nopCode`, `counterImpl`, `fpInstance`, `denied`,
`irqSources`, `irqInstance`, `irqAtEl1` and `irqInputs` are the parameters of R4, which no instruction changes; `draws` is the model's own. -/
structure State where
  /-- R0 to R31, the general registers (R20). -/
  r : Vector Word 32
  /-- PC: the instruction address in bits 63 to 2, the execution level EL in bits 1 to 0 (R23). -/
  pc : Word
  /-- E0 to E31, the exception registers (R29): E0 EBASE, E1 to E7 scratch, E16 EPC, E17 EADDR, E18 ECODE, E19 INTS, E20 INTM,
  E30 ESP, E31 ELR. The places of the reserved ones hold 0 and are never written (R30). -/
  e : Vector Word 32
  /-- C0 to C31, the counter registers (R41): C0 ICNT0, C1 ICNT1, C4 CCNT0, C5 CCNT1, C8 TIME. The places of the undefined ones
  hold 0 and are never written (R42); those that `counterImpl` adds are counters too. -/
  c : Vector Word 32
  /-- Memory (R60 to R64). -/
  mem : Memory
  /-- `ADDR_BITS`: how many address bits are implemented (R4, R25, R60). -/
  addrBits : Config.AddrBits
  /-- `OP_NOP`: the opcode number of NOP (R4, R97). -/
  nopCode : Config.NopCode
  /-- `counter_impl`: whether counter i is implemented beyond the five of R42 (R4, R42). -/
  counterImpl : Vector Bool 32
  /-- `fp`: which record of floating-point functions the machine has, its rounding mode included (R4, R356, R357). -/
  fpInstance : Config.FpInstance
  /-- The platform's `access_ok`, as the list of what it refuses (R4, R70). -/
  denied : List Denial
  /-- `irq.sources`: bit i is set when INTS bit i has a source (R463). -/
  irqSources : Word
  /-- `irq.enabled`, `irq.ecode` and `irq.choose`: which rules the machine has (R463). -/
  irqInstance : Config.IrqInstance
  /-- `irq.el1_taken`: whether an interrupt can be taken while EL is not 0 (R463). -/
  irqAtEl1 : Bool
  /-- `irq.pending`: the values the hardware gives INTS at the next steps, first one first (R463). -/
  irqInputs : List Word
  /-- The number of the next draw for the counters: the model's own field, no register of the machine (R43; log entry 24). -/
  draws : Nat
  deriving DecidableEq, Repr

/-- Why the machine stops with no next state. -/
inductive Fault where
  /-- A fetch, load or long immediate needs a byte at or after this address that nothing has written (R501, R476: "a model fault
  and not a step"). Raised by `memRead` and `fetchWord`. Safe: the model stops where hardware would go on. -/
  | noValue (addr : Word)
  deriving DecidableEq, Repr

/-- Why the machine refuses to go on. -/
inductive Refusal where
  /-- The instruction has no meaning in this model. Raised by no arm of `exec`. Safe. -/
  | notModelled (mnemonic : String)
  /-- PC.EL is 2 or 3, levels that do not exist (R26, U9: "refuse"). Raised by `step`. Safe. -/
  | reservedLevel (level : BitVec 2)
  deriving DecidableEq, Repr

/-- What an instruction or a step answers: a next state, a fault or a refusal. -/
abbrev Answer := Host.Outcome State Fault Refusal

/-- A machine just after a reset, with the parameters `RESET_PC[63:2]`, `reset.EL` and `reset.INTM` of R500. The
counters are cleared (R43); registers for which R500 gives no value hold 0 (DESIGN CHOICE, log entry 40);
no byte of memory has a value (log entry 41); the parameters `ADDR_BITS`, `OP_NOP`, `counter_impl` and `fp` have the defaults of R4,
`access_ok` holds everywhere (log entry 21), and `irq` has the defaults of R463, with no source (log entry 18). -/
def State.resetAt (addr : BitVec 62) (level : BitVec 2) (intm : Word) : State where
  r := Vector.replicate 32 0
  pc := addr ++ level
  e := (Vector.replicate 32 0).set 20 intm
  c := Vector.replicate 32 0
  mem := []
  addrBits := Config.addrBits
  nopCode := Config.opNop
  counterImpl := Config.counterImpl
  fpInstance := Config.fpInstance
  denied := []
  irqSources := 0
  irqInstance := Config.irqInstance
  irqAtEl1 := true
  irqInputs := []
  draws := 0

/-- The machine right after reset: EL1, at `RESET_PC`, every interrupt masked (R46, R500). -/
def State.reset : State := State.resetAt Config.resetPcAddr Config.resetLevel Config.resetIntm

end Sys2Proof.Machine
end

