-- ==== Sys2Proof/Machine/Flags.lean ====
section
/-! DEFINITION. The M-Processor has no flags and no condition codes (R44): no instruction computes one. What stands in their
place are the compare results, the 64-bit values 0 and 1, and the comparisons that make them (R222). -/

namespace Sys2Proof.Machine

open Sys2Proof

/-- `bool(c)`: the 64-bit value 1 when `c` holds, else 0 (R7, R222). -/
def boolWord (c : Bool) : Word := if c then 1 else 0

/-- `a <s b`: less than, as two's-complement numbers (R6, R222). -/
def ltSigned (a b : Word) : Bool := decide (a.toInt < b.toInt)

/-- `a >=s b` (R6, R222). -/
def geSigned (a b : Word) : Bool := decide (b.toInt ≤ a.toInt)

/-- `a <u b`: less than, as numbers from 0 to 2^64 - 1 (R6, R222). -/
def ltUnsigned (a b : Word) : Bool := decide (a.toNat < b.toNat)

/-- `a >=u b` (R6, R222). -/
def geUnsigned (a b : Word) : Bool := decide (b.toNat ≤ a.toNat)

/-- `nz(A)`: a register read as a Boolean counts as true when it is not zero (section 3 of 43_three_operand.md, D9; log entry 9). -/
def isTrue (a : Word) : Bool := decide (a ≠ 0)

end Sys2Proof.Machine
end

