-- ==== Sys2Proof/Machine/Ops.lean ====
section
/-! DEFINITION. The named operations over the program counter, the registers, the counters and memory; taking an exception, and
returning from one. -/

namespace Sys2Proof.Machine

open Sys2Proof

/-! ### The program counter (R23 to R26) -/

/-- PC.EL: bits 1 to 0 of PC, the execution level (R23). -/
def State.el (s : State) : BitVec 2 := s.pc.extractLsb' 0 2

/-- PC.ADDR: bits 63 to 2 of PC, the address of the current instruction in words (R23). -/
def State.pcAddr (s : State) : BitVec 62 := s.pc.extractLsb' 2 62

/-- `pc`: the byte address of the current instruction, PC.ADDR followed by two zero bits (R23). -/
def State.pcByte (s : State) : Word := s.pcAddr ++ (0 : BitVec 2)

/-- Bits 63 to 2 of a byte address: what an address leaves in PC.ADDR (R7, R103). -/
def wordAddr (t : Word) : BitVec 62 := t.extractLsb' 2 62

/-- PC.ADDR becomes `addr`; PC.EL stays (R7, R26). -/
def State.setAddr (s : State) (addr : BitVec 62) : State := { s with pc := addr ++ s.el }

/-- `pc <- t`: the two low bits of `t` are dropped and PC.EL stays (R7). -/
def State.jump (s : State) (t : Word) : State := s.setAddr (wordAddr t)

/-- `pc <- pc + 4`: PC.ADDR advances by one instruction, modulo 2^62 (R24, R25). -/
def State.advance (s : State) : State := s.setAddr (s.pcAddr + 1)

/-- Levels 2 and 3 do not exist (R26). -/
def reservedLevel (level : BitVec 2) : Bool := decide (1 < level.toNat)

/-! ### The general and the exception registers (R20, R27, R29, R30) -/

/-- R[i] (R20): every general register can be read and none is hard-wired. -/
def State.readR (s : State) (i : Reg) : Word := s.r[i]

/-- R[i] <- v (R20). -/
def State.writeR (s : State) (i : Reg) (v : Word) : State := { s with r := s.r.set i v }

/-- The numbers of the exception registers that hardware names (R29). -/
def ebaseNo : Reg := 0
def epcNo : Reg := 16
def eaddrNo : Reg := 17
def ecodeNo : Reg := 18
def intsNo : Reg := 19
def intmNo : Reg := 20

/-- The undefined exception registers: 8 to 15 and 21 to 29 (R29, R30). -/
def undefinedE (i : Reg) : Bool := decide (8 ≤ i.val ∧ i.val ≤ 15 ∨ 21 ≤ i.val ∧ i.val ≤ 29)

/-- `Eread(i)`: an undefined exception register reads as zero (R30). -/
def State.readE (s : State) (i : Reg) : Word := if undefinedE i then 0 else s.e[i]

/-- What `Ewrite(i, v)` leaves in a defined exception register that held `old`: `v`, and for INTS the parameter
`irq.ints_write` (R30, R36). -/
def writtenE (i : Reg) (old v : Word) : Word := if i = intsNo then Config.intsWrite old v else v

/-- `Ewrite(i, v)`: writing an undefined exception register has no effect (R30, R36). -/
def State.writeE (s : State) (i : Reg) (v : Word) : State :=
  if undefinedE i then s else { s with e := s.e.set i (writtenE i s.e[i] v) }

/-- `x[i]`: a register field names a general register at EL0 and an exception register otherwise (R27). -/
def State.readX (s : State) (i : Reg) : Word := if s.el = 0 then s.readR i else s.readE i

/-- `x[i] <- v` (R27). -/
def State.writeX (s : State) (i : Reg) (v : Word) : State := if s.el = 0 then s.writeR i v else s.writeE i v

/-- `link`: the whole 64-bit PC, level bits included, plus 4 (R160). -/
def State.link (s : State) : Word := s.pc + 4

/-! ### The counters (R41 to R43) -/

/-- The counters that the source defines: ICNT0, ICNT1, CCNT0, CCNT1 and TIME (R42). -/
def definedC (i : Reg) : Bool := decide (i.val = 0 ∨ i.val = 1 ∨ i.val = 4 ∨ i.val = 5 ∨ i.val = 8)

/-- The undefined counters: all but the five of R42 and those that `counter_impl` adds (R4, R42). -/
def State.undefinedC (s : State) (i : Reg) : Bool := !(definedC i || s.counterImpl[i])

/-- `Cread(i)`: the value of counter `i`; an undefined counter reads as 0 (R42, R43, R436). -/
def State.readC (s : State) (i : Reg) : Word := if s.undefinedC i then 0 else s.c[i]

/-- A counter that held `old` and is offered the draw `d`: it never goes down (R43). -/
def counted (old d : Word) : Word := if old.toNat ≤ d.toNat then d else old

/-- Whether the hardware updates counter `i` at the current level: ICNT0 and CCNT0 only at EL0, ICNT1 and CCNT1 only above it, TIME
and the added counters at every level, an undefined one never (R42, R43; log entry 24). -/
def State.counts (s : State) (i : Reg) : Bool :=
  if i.val = 0 ∨ i.val = 4 then decide (s.el = 0)
  else if i.val = 1 ∨ i.val = 5 then decide (s.el ≠ 0)
  else !s.undefinedC i

/-- Counter `i`, which held `old`, after the update (R43). -/
def State.countOf (s : State) (i : Reg) (old : Word) : Word :=
  if s.counts i then counted old (Config.counterDraw i.val s.draws) else old

/-- The counters are updated as a step begins (R43; log entry 24). -/
def State.tick (s : State) : State :=
  { s with c := s.c.mapFinIdx fun i old h => s.countOf ⟨i, h⟩ old, draws := s.draws + 1 }

/-! ### Bytes of memory (R60 to R64) -/

/-- The byte at an address, if it has a value. -/
def Memory.read : Memory → Nat → Option Byte
  | [], _ => none
  | (b, v) :: rest, a => if a = b then some v else Memory.read rest a

/-- The byte at `a` becomes `v`; the addresses keep rising strictly. -/
def Memory.write : Memory → Nat → Byte → Memory
  | [], a, v => [(a, v)]
  | (b, w) :: rest, a, v =>
    if a < b then (a, v) :: (b, w) :: rest
    else if a = b then (a, v) :: rest
    else (b, w) :: Memory.write rest a v

/-- The canonical form: addresses strictly rising and inside the implemented address space. An unlisted byte has no value, so no
entry can equal what an unlisted address reads as. -/
def Memory.wf (bits : Config.AddrBits) : Memory → Bool
  | [] => true
  | [(a, _)] => decide (a < 2 ^ bits.count)
  | (a, _) :: (b, w) :: rest => decide (a < b) && Memory.wf bits ((b, w) :: rest)

/-- The byte of memory that an address names. The bits at or above `ADDR_BITS` are dropped here and nowhere else: registers, PC,
EADDR and `access_ok` keep all 64 (R25, R60, D6; DESIGN CHOICE, log entry 6). -/
def byteNo (bits : Config.AddrBits) (addr : Word) : Nat := addr.toNat % 2 ^ bits.count

/-- The byte that an address names on this machine (R25, R60). -/
def State.byteNo (s : State) (addr : Word) : Nat := Machine.byteNo s.addrBits addr

/-- The `n` bytes from `addr` on, lowest address first, if all of them have a value (R62; addresses modulo 2^64, R73). -/
def Memory.readBytes (m : Memory) (bits : Config.AddrBits) (addr : Word) : Nat → Option (List Byte)
  | 0 => some []
  | n + 1 =>
    match m.read (byteNo bits addr), Memory.readBytes m bits (addr + 1) n with
    | some b, some bs => some (b :: bs)
    | _, _ => none

/-- Bytes stored from `addr` on, first one lowest (R62). -/
def Memory.writeBytes (m : Memory) (bits : Config.AddrBits) (addr : Word) : List Byte → Memory
  | [] => m
  | b :: bs => Memory.writeBytes (m.write (byteNo bits addr) b) bits (addr + 1) bs

/-! ### Exceptions (R450 to R458) -/

/-- The synchronous exceptions (R451). -/
inductive SyncCause where
  | invalidInstruction
  | illegalSysReg
  | misaligned (addr : Word)
  | illegalFetch (addr : Word)
  | illegalLoad (addr : Word)
  | illegalStore (addr : Word)
  deriving DecidableEq, Repr

/-- ECODE of a synchronous exception (R451). -/
def SyncCause.code : SyncCause → Word
  | .invalidInstruction => 0
  | .illegalSysReg => 1
  | .misaligned _ => 2
  | .illegalFetch _ => 3
  | .illegalLoad _ => 4
  | .illegalStore _ => 5

/-- The bad address of a synchronous exception, for codes 2 to 5 (R451). -/
def SyncCause.badAddr : SyncCause → Option Word
  | .invalidInstruction => none
  | .illegalSysReg => none
  | .misaligned a => some a
  | .illegalFetch a => some a
  | .illegalLoad a => some a
  | .illegalStore a => some a

/-- The four types of exception (R450). -/
inductive ExceptionType where
  | systemCall | debuggerCall | synchronous | asynchronous
  deriving DecidableEq, Repr

/-- Where the handler of a type starts, in bytes from EBASE (R456, R457). -/
def ExceptionType.offset : ExceptionType → Word
  | .systemCall => 0x00
  | .debuggerCall => 0x40
  | .synchronous => 0x80
  | .asynchronous => 0xC0

/-- The exception registers after an entry: EPC, ECODE and, with a bad address, EADDR (R456). -/
def savedE (s : State) (code : Word) (bad : Option Word) : Vector Word 32 :=
  let e := (s.e.set epcNo s.pc).set ecodeNo code
  match bad with
  | some a => e.set eaddrNo a
  | none => e

/-- TAKING AN EXCEPTION, `Enter(type, code, badaddr)` of R456: EPC <- PC, ECODE <- code, EADDR <- the bad address if there is
one, PC.ADDR <- (EBASE + n)[63:2], PC.EL <- 1. Nothing else changes (R458). -/
def State.enter (s : State) (type : ExceptionType) (code : Word) (bad : Option Word) : State :=
  { s with
    e := savedE s code bad
    pc := wordAddr (s.e[ebaseNo] + type.offset) ++ (1 : BitVec 2) }

/-- `raise Sync(code)` and `raise Sync(code, badaddr)` (R455). -/
def State.raise (s : State) (c : SyncCause) : State := s.enter .synchronous c.code c.badAddr

/-- THE RETURN FROM AN EXCEPTION: PC.EL <- EPC.EL and PC.ADDR <- EPC.ADDR + a signed count of instructions (R433, R459). -/
def State.returnFrom (s : State) (offset : BitVec 12) : State :=
  let e := s.readE epcNo
  { s with pc := (wordAddr e + offset.signExtend 62) ++ e.extractLsb' 0 2 }

/-! ### Attempts: what may raise an exception or meet a byte that has no value -/

/-- The outcome of a checked access: a value, an exception to raise, or a fault of the model. -/
inductive Attempt (α : Type) where
  | done (a : α)
  | trap (c : SyncCause)
  | stuck (f : Fault)
  deriving DecidableEq, Repr

/-- Go on with the value of an attempt. -/
def Attempt.bind {α β : Type} (x : Attempt α) (k : α → Attempt β) : Attempt β :=
  match x with
  | .done a => k a
  | .trap c => .trap c
  | .stuck f => .stuck f

/-- How an instruction ends that started in `s`: its next state, or the exception it raises with none of its writes performed
(R455, R470), or a fault. -/
def finish (s : State) (x : Attempt State) : Host.Outcome State Fault Refusal :=
  match x with
  | .done t => .next t
  | .trap c => .next (s.raise c)
  | .stuck f => .fault f

/-- The end of an instruction that writes one register: `x[d] <- v`, `pc <- pc + 4`. -/
def State.result (s : State) (d : Reg) (v : Word) : State := (s.writeX d v).advance

/-! ### The access primitives (R66, R68, R69, R70) -/

/-- Whether one entry of the platform's protection refuses an access. -/
def Denial.covers (d : Denial) (level : BitVec 2) (kind : AccessKind) (addr : Word) (size : Nat) : Bool :=
  decide (d.level = level) && decide (d.kind = kind) && (d.size.all fun n => decide (n = size)) &&
    decide (d.first.toNat ≤ addr.toNat ∧ addr.toNat ≤ d.last.toNat)

/-- `access_ok(EL, kind, addr, size)` (R4, R70, D21; log entry 21). -/
def State.accessOk (s : State) (kind : AccessKind) (addr : Word) (size : Nat) : Bool :=
  s.denied.all fun d => !d.covers s.el kind addr size

/-- Whether an address is a multiple of the access size (R65, R66). -/
def aligned (addr : Word) (n : Nat) : Bool := decide (addr.toNat % n = 0)

/-- `n` bytes of memory as one number, or the fault of R501. -/
def State.bytesAt (s : State) (addr : Word) (n : Nat) : Attempt Nat :=
  match s.mem.readBytes s.addrBits addr n with
  | some bs => .done (leNat bs)
  | none => .stuck (.noValue addr)

/-- `MemRead(A, n)`: the alignment check, the permission check, then the little-endian value (R62, R69). -/
def State.memRead (s : State) (addr : Word) (n : Nat) : Attempt (BitVec (8 * n)) :=
  if aligned addr n then
    if s.accessOk .load addr n then (s.bytesAt addr n).bind fun v => .done (BitVec.ofNat (8 * n) v)
    else .trap (.illegalLoad addr)
  else .trap (.misaligned addr)

/-- Memory after `n` bytes of a value are stored from `addr` on, least significant byte first (R62). -/
def State.stored (s : State) (addr : Word) (n : Nat) (v : BitVec (8 * n)) : State :=
  { s with mem := s.mem.writeBytes s.addrBits addr (leBytes n v.toNat) }

/-- `MemWrite(A, n, v)`: the alignment check, the permission check, then the byte writes (R62, R69). -/
def State.memWrite (s : State) (addr : Word) (n : Nat) (v : BitVec (8 * n)) : Attempt State :=
  if aligned addr n then
    if s.accessOk .store addr n then .done (s.stored addr n v)
    else .trap (.illegalStore addr)
  else .trap (.misaligned addr)

/-- `Fetch(A)`: the permission check, then the 32-bit little-endian word (R63, R68). -/
def State.fetchWord (s : State) (addr : Word) : Attempt (BitVec 32) :=
  if s.accessOk .fetch addr 4 then (s.bytesAt addr 4).bind fun v => .done (BitVec.ofNat 32 v)
  else .trap (.illegalFetch addr)

end Sys2Proof.Machine
end

