-- ==== Sys2Proof/Machine/Operands.lean ====
section
/-! DEFINITION. The operand forms of the instructions: immediates, jump and branch targets, effective addresses, and the long
immediates that ALUI1, ALUI2 and ALUI3 read from the words that follow them. -/

namespace Sys2Proof.Machine

open Sys2Proof

/-! ### Immediates (R104, R105) -/

/-- `sext_64(Imm12)` (R105). -/
def imm12 (i : BitVec 12) : Word := i.signExtend 64

/-- `zext_64(Imm12)`: the service code of SCALL and DCALL (R105, R431, R432, D14). -/
def serviceCode (i : BitVec 12) : Word := i.zeroExtend 64

/-- `zext_64(UImm5)`: never negative, in the signed comparisons too (R104). -/
def uimm5 (i : BitVec 5) : Word := i.zeroExtend 64

/-! ### Targets (R101, R102, R103) -/

/-- The target of J and JAL: `pc + sext_64(Offset26 : 2'b0)` (R101). -/
def State.jumpTarget (s : State) (off : BitVec 26) : Word := s.pcByte + (off ++ (0 : BitVec 2)).signExtend 64

/-- The target of a branch: `pc + sext_64(Offset16 : 2'b0)` (R102). -/
def State.branchTarget (s : State) (off : BitVec 16) : Word := s.pcByte + (off ++ (0 : BitVec 2)).signExtend 64

/-- The instruction address JR and JALR go to: `x[a][63:2] + sext_62(Offset16)`, modulo 2^62 (R103). -/
def registerTarget (base : Word) (off : BitVec 16) : BitVec 62 := wordAddr base + off.signExtend 62

/-! ### Effective addresses (R180) -/

/-- Displacement addressing: `x[a] + sext_64(Imm12)` (R180). -/
def State.displaced (s : State) (a : Reg) (i : BitVec 12) : Word := s.readX a + imm12 i

/-- Scaled-index addressing: `x[a] + (x[b] << s)`; bits shifted out at the top are lost (R180). -/
def State.scaledIndex (s : State) (a b : Reg) (scale : Nat) : Word := s.readX a + s.readX b <<< scale

/-! ### Long immediates (R107, R256, R259 to R261) -/

/-- The Imm26 field of an extension word: it is read with the instruction fetch and must be a NOP (R97, R256). -/
def State.extensionWord (s : State) (addr : Word) : Attempt (BitVec 26) :=
  (s.fetchWord addr).bind fun w =>
    if fieldOp w = s.nopCode.code then .done (fieldImm26 w) else .trap .invalidInstruction

/-- The immediate of ALUI1: `sext_64(Imm26A : Imm12)` (R107, R259). -/
def longImm1 (a : BitVec 26) (i : BitVec 12) : Word := (a ++ i).signExtend 64

/-- The immediate of ALUI2: `Imm26A : 26'b0 : Imm12` (R107, R260). -/
def longImm2 (a : BitVec 26) (i : BitVec 12) : Word := a ++ (0 : BitVec 26) ++ i

/-- The immediate of ALUI3: `Imm26A : Imm26B : Imm12` (R107, R261). -/
def longImm3 (a b : BitVec 26) (i : BitVec 12) : Word := a ++ b ++ i

/-- The immediate of an ALUI1 instruction at the current pc (R256, R259). -/
def State.readImm1 (s : State) (i : BitVec 12) : Attempt Word :=
  (s.extensionWord (s.pcByte + 4)).bind fun a => .done (longImm1 a i)

/-- The immediate of an ALUI2 instruction at the current pc (R256, R260). -/
def State.readImm2 (s : State) (i : BitVec 12) : Attempt Word :=
  (s.extensionWord (s.pcByte + 4)).bind fun a => .done (longImm2 a i)

/-- The immediate of an ALUI3 instruction at the current pc; the first word is examined first (R256, R261). -/
def State.readImm3 (s : State) (i : BitVec 12) : Attempt Word :=
  (s.extensionWord (s.pcByte + 4)).bind fun a =>
    (s.extensionWord (s.pcByte + 8)).bind fun b => .done (longImm3 a b i)

end Sys2Proof.Machine
end

