-- ==== Sys2Proof/Machine/Control.lean ====
section
/-! DEFINITION. The control-flow instructions (40_control_flow.md). None changes PC.EL and none raises an exception (R140). -/

namespace Sys2Proof.Machine

open Sys2Proof

/-- The register that JAL links in and RET returns through (R22, R142, R262). -/
def linkNo : Reg := 31

/-- The end of a branch: to the target when the condition holds, else to the next instruction (R102). -/
def State.branch (s : State) (taken : Bool) (off : BitVec 16) : State :=
  if taken then s.jump (s.branchTarget off) else s.advance

/-- LOOP and LOOPD: the counter `b` gets its new value, which is compared with the old value of the limit `a` (R155, R156, R28). -/
def State.countAndBranch (s : State) (a b : Reg) (count : Word) (off : BitVec 16) : State :=
  (s.writeX b count).branch (count != s.readX a) off

/-! ### Jumps, J format (R101) -/

/-- J (R141). -/
def execJ (off : BitVec 26) (s : State) : Answer :=
  .next (s.jump (s.jumpTarget off))

/-- JAL (R142). -/
def execJal (off : BitVec 26) (s : State) : Answer :=
  .next ((s.writeX linkNo s.link).jump (s.jumpTarget off))

/-! ### Branches on two registers, B format (R102) -/

/-- BEQ (R143). -/
def execBeq (a b : Reg) (off : BitVec 16) (s : State) : Answer :=
  .next (s.branch (s.readX a == s.readX b) off)

/-- BNE (R144). -/
def execBne (a b : Reg) (off : BitVec 16) (s : State) : Answer :=
  .next (s.branch (s.readX a != s.readX b) off)

/-- BLT (R145). -/
def execBlt (a b : Reg) (off : BitVec 16) (s : State) : Answer :=
  .next (s.branch (ltSigned (s.readX a) (s.readX b)) off)

/-- BGE (R146). -/
def execBge (a b : Reg) (off : BitVec 16) (s : State) : Answer :=
  .next (s.branch (geSigned (s.readX a) (s.readX b)) off)

/-- BLTU (R147). -/
def execBltu (a b : Reg) (off : BitVec 16) (s : State) : Answer :=
  .next (s.branch (ltUnsigned (s.readX a) (s.readX b)) off)

/-- BGEU (R148). -/
def execBgeu (a b : Reg) (off : BitVec 16) (s : State) : Answer :=
  .next (s.branch (geUnsigned (s.readX a) (s.readX b)) off)

/-! ### Branches on a register and an immediate, B format (R102, R104) -/

/-- BEQI (R149). -/
def execBeqi (a : Reg) (imm : BitVec 5) (off : BitVec 16) (s : State) : Answer :=
  .next (s.branch (s.readX a == uimm5 imm) off)

/-- BNEI (R150). -/
def execBnei (a : Reg) (imm : BitVec 5) (off : BitVec 16) (s : State) : Answer :=
  .next (s.branch (s.readX a != uimm5 imm) off)

/-- BLTI (R151). -/
def execBlti (a : Reg) (imm : BitVec 5) (off : BitVec 16) (s : State) : Answer :=
  .next (s.branch (ltSigned (s.readX a) (uimm5 imm)) off)

/-- BGEI (R152). -/
def execBgei (a : Reg) (imm : BitVec 5) (off : BitVec 16) (s : State) : Answer :=
  .next (s.branch (geSigned (s.readX a) (uimm5 imm)) off)

/-- BLTUI (R153). -/
def execBltui (a : Reg) (imm : BitVec 5) (off : BitVec 16) (s : State) : Answer :=
  .next (s.branch (ltUnsigned (s.readX a) (uimm5 imm)) off)

/-- BGEUI (R154). -/
def execBgeui (a : Reg) (imm : BitVec 5) (off : BitVec 16) (s : State) : Answer :=
  .next (s.branch (geUnsigned (s.readX a) (uimm5 imm)) off)

/-! ### Loops, B format -/

/-- LOOP (R155). -/
def execLoop (a b : Reg) (off : BitVec 16) (s : State) : Answer :=
  .next (s.countAndBranch a b (s.readX b + 1) off)

/-- LOOPD (R156). -/
def execLoopd (a b : Reg) (off : BitVec 16) (s : State) : Answer :=
  .next (s.countAndBranch a b (s.readX b - 1) off)

/-! ### Jumps through a register, B format (R103) -/

/-- JR (R157). -/
def execJr (a : Reg) (off : BitVec 16) (s : State) : Answer :=
  .next (s.setAddr (registerTarget (s.readX a) off))

/-- JALR (R158). -/
def execJalr (a b : Reg) (off : BitVec 16) (s : State) : Answer :=
  .next ((s.writeX b s.link).setAddr (registerTarget (s.readX a) off))

end Sys2Proof.Machine
end

