-- ==== Sys2Proof/Machine/Fp.lean ====
section
/-! DEFINITION. The record `fp` of R356: the IEEE 754 instances, binary32 (`.S`) and binary64 (`.D`), no flags and no traps, one for
each rounding mode; the default one rounds to nearest, ties to even (R357; D22, D23, D32, D37; log entries 22, 23, 32, 37 and
39). A pattern is handled as a natural number; a finite value is a sign, a natural number and a power of two; every function
computes exactly and rounds once, at the end. At the end of the file stands the record that a machine has. -/

namespace Sys2Proof.Machine

open Sys2Proof Config

/-! ### The formats (R356) -/

/-- A binary format: the sign in the top bit, then the biased exponent, then the fraction (R356). -/
structure FpFormat where
  expBits : Nat
  fracBits : Nat
  deriving DecidableEq, Repr

/-- binary32: sign in bit 31, exponent in bits 30 to 23, fraction in bits 22 to 0 (R356). -/
def single : FpFormat := { expBits := 8, fracBits := 23 }

/-- binary64: sign in bit 63, exponent in bits 62 to 52, fraction in bits 51 to 0 (R356). -/
def double : FpFormat := { expBits := 11, fracBits := 52 }

/-- The bias of the exponent: 127 and 1023 (R356). -/
def FpFormat.bias (F : FpFormat) : Nat := 2 ^ (F.expBits - 1) - 1
/-- The power of two that the lowest fraction bit of a subnormal number stands for. -/
def FpFormat.lowest (F : FpFormat) : Int := 1 - (F.bias : Int) - (F.fracBits : Int)
/-- The all-ones exponent, of infinities and NaNs (R356). -/
def FpFormat.topExp (F : FpFormat) : Nat := 2 ^ F.expBits - 1
/-- The pattern of the positive infinity (R356). -/
def FpFormat.infinity (F : FpFormat) : Nat := F.topExp * 2 ^ F.fracBits
/-- The sign bit as a number. -/
def FpFormat.signBit (F : FpFormat) : Nat := 2 ^ (F.expBits + F.fracBits)
/-- The sign bit of a result. -/
def FpFormat.sign (F : FpFormat) (neg : Bool) : Nat := if neg then F.signBit else 0

/-- The fraction of a pattern. -/
def FpFormat.fracOf (F : FpFormat) (p : Nat) : Nat := p % 2 ^ F.fracBits
/-- The biased exponent of a pattern. -/
def FpFormat.expOf (F : FpFormat) (p : Nat) : Nat := p / 2 ^ F.fracBits % 2 ^ F.expBits
/-- Whether the sign bit of a pattern is set. -/
def FpFormat.negOf (F : FpFormat) (p : Nat) : Bool := decide (p / F.signBit % 2 = 1)
/-- A pattern without its sign bit. -/
def FpFormat.magnitude (F : FpFormat) (p : Nat) : Nat := p % F.signBit

/-- What a pattern stands for: not a number, an infinity, or the number `(-1)^neg * m * 2^q`. -/
inductive FpValue where
  | nan
  | inf (neg : Bool)
  | num (neg : Bool) (m : Nat) (q : Int)
  deriving DecidableEq, Repr

/-- The value of a pattern (R356). -/
def FpFormat.value (F : FpFormat) (p : Nat) : FpValue :=
  if F.expOf p = F.topExp then
    if F.fracOf p = 0 then .inf (F.negOf p) else .nan
  else if F.expOf p = 0 then .num (F.negOf p) (F.fracOf p) F.lowest
  else .num (F.negOf p) (2 ^ F.fracBits + F.fracOf p) (F.lowest + (F.expOf p - 1 : Nat))

/-! ### Rounding (R356, R357) -/

/-- Whether a magnitude `d + r / 2^k` is rounded to `d + 1` and not to `d` (R357). -/
def roundsUp (rm : RoundingMode) (neg : Bool) (d r k : Nat) : Bool :=
  match rm with
  | .nearestEven => decide (2 ^ k < 2 * r ∨ 2 * r = 2 ^ k ∧ d % 2 = 1)
  | .nearestAway => decide (2 ^ k ≤ 2 * r)
  | .towardZero => false
  | .upward => !neg && decide (r ≠ 0)
  | .downward => neg && decide (r ≠ 0)

/-- The magnitude `m / 2^k` of a number with this sign, rounded to a whole number. -/
def roundShift (rm : RoundingMode) (neg : Bool) (m k : Nat) : Nat :=
  let d := m / 2 ^ k
  let r := m % 2 ^ k
  if roundsUp rm neg d r k then d + 1 else d

/-- The number of binary digits of `m`. -/
def bitLength (m : Nat) : Nat := if m = 0 then 0 else Nat.log2 m + 1

/-- The power of two of the lowest digit that the result may keep of `m * 2^q`. -/
def FpFormat.keptFrom (F : FpFormat) (m : Nat) (q : Int) : Int :=
  max (q + (bitLength m : Int) - (F.fracBits + 1 : Nat)) F.lowest

/-- The magnitude `m * 2^q` as a whole number of `2^t`, rounded when digits are lost. -/
def scaled (rm : RoundingMode) (neg : Bool) (m : Nat) (q t : Int) : Nat :=
  if t ≤ q then m * 2 ^ (q - t).toNat else roundShift rm neg m (t - q).toNat

/-- The magnitude that stands for a number too large for the format: an infinity, or the largest number where the mode does not
round away from zero (R356). -/
def FpFormat.overflow (F : FpFormat) (rm : RoundingMode) (neg : Bool) : Nat :=
  match rm with
  | .nearestEven => F.infinity
  | .nearestAway => F.infinity
  | .towardZero => F.infinity - 1
  | .upward => if neg then F.infinity - 1 else F.infinity
  | .downward => if neg then F.infinity else F.infinity - 1

/-- The pattern of `(-1)^neg * m * 2^q` rounded to the format (R356). The exponent and fraction fields follow each other, so a
carry out of the fraction raises the exponent by itself. -/
def FpFormat.round (F : FpFormat) (rm : RoundingMode) (neg : Bool) (m : Nat) (q : Int) : Nat :=
  let t := F.keptFrom m q
  let p := (t - F.lowest).toNat * 2 ^ F.fracBits + scaled rm neg m q t
  if m = 0 then F.sign neg
  else F.sign neg + if p < F.infinity then p else F.overflow rm neg

/-! ### Arithmetic: a pattern, or none where the result is a NaN -/

/-- A sum of two finite values: exact, then rounded; a zero sum has the sign that both zeros have, and +0 (with
downward rounding -0) where the signs differ (R356). -/
def FpFormat.sumFinite (F : FpFormat) (rm : RoundingMode) (n₁ : Bool) (m₁ : Nat) (q₁ : Int) (n₂ : Bool) (m₂ : Nat) (q₂ : Int) : Nat :=
  let q := min q₁ q₂
  let i₁ : Int := m₁ * 2 ^ (q₁ - q).toNat
  let i₂ : Int := m₂ * 2 ^ (q₂ - q).toNat
  let sum := (if n₁ then -i₁ else i₁) + (if n₂ then -i₂ else i₂)
  if sum = 0 then F.sign (if n₁ = n₂ then n₁ else decide (rm = .downward))
  else F.round rm (decide (sum < 0)) sum.natAbs q

/-- Addition (R356). -/
def FpFormat.add (F : FpFormat) (rm : RoundingMode) (a b : Nat) : Option Nat :=
  match F.value a, F.value b with
  | .nan, _ => none
  | _, .nan => none
  | .inf n₁, .inf n₂ => if n₁ = n₂ then some (F.sign n₁ + F.infinity) else none
  | .inf n₁, .num _ _ _ => some (F.sign n₁ + F.infinity)
  | .num _ _ _, .inf n₂ => some (F.sign n₂ + F.infinity)
  | .num n₁ m₁ q₁, .num n₂ m₂ q₂ => some (F.sumFinite rm n₁ m₁ q₁ n₂ m₂ q₂)

/-- Multiplication (R356). -/
def FpFormat.mul (F : FpFormat) (rm : RoundingMode) (a b : Nat) : Option Nat :=
  match F.value a, F.value b with
  | .nan, _ => none
  | _, .nan => none
  | .inf n₁, .inf n₂ => some (F.sign (n₁ ^^ n₂) + F.infinity)
  | .inf n₁, .num n₂ m₂ _ => if m₂ = 0 then none else some (F.sign (n₁ ^^ n₂) + F.infinity)
  | .num n₁ m₁ _, .inf n₂ => if m₁ = 0 then none else some (F.sign (n₁ ^^ n₂) + F.infinity)
  | .num n₁ m₁ q₁, .num n₂ m₂ q₂ => some (F.round rm (n₁ ^^ n₂) (m₁ * m₂) (q₁ + q₂))

/-- A quotient with enough digits to round, and a last digit that says whether anything was left over. -/
def stickyQuotient (n d : Nat) : Nat := 2 * (n / d) + if n % d = 0 then 0 else 1

/-- A quotient of two finite values, the second not zero. -/
def FpFormat.quotient (F : FpFormat) (rm : RoundingMode) (neg : Bool) (m₁ : Nat) (q₁ : Int) (m₂ : Nat) (q₂ : Int) : Nat :=
  let k := F.fracBits + 3 + bitLength m₂
  F.round rm neg (stickyQuotient (m₁ * 2 ^ k) m₂) (q₁ - q₂ - k - 1)

/-- Division; a finite number divided by zero is an infinity, 0/0 a NaN (R356, R393). -/
def FpFormat.div (F : FpFormat) (rm : RoundingMode) (a b : Nat) : Option Nat :=
  match F.value a, F.value b with
  | .nan, _ => none
  | _, .nan => none
  | .inf _, .inf _ => none
  | .inf n₁, .num n₂ _ _ => some (F.sign (n₁ ^^ n₂) + F.infinity)
  | .num n₁ _ _, .inf n₂ => some (F.sign (n₁ ^^ n₂))
  | .num n₁ m₁ q₁, .num n₂ m₂ q₂ =>
    if m₂ = 0 then
      if m₁ = 0 then none else some (F.sign (n₁ ^^ n₂) + F.infinity)
    else some (F.quotient rm (n₁ ^^ n₂) m₁ q₁ m₂ q₂)

/-- The integer square root, one binary digit after the other: `acc` plus the digits below `2^k`. -/
def rootDigits : Nat → Nat → Nat → Nat
  | 0, _, acc => acc
  | k + 1, n, acc => rootDigits k n (if (acc + 2 ^ k) ^ 2 ≤ n then acc + 2 ^ k else acc)

/-- The integer square root. -/
def rootFloor (n : Nat) : Nat := rootDigits (bitLength n) n 0

/-- A root with a last digit that says whether anything was left over. -/
def stickyRoot (n : Nat) : Nat := 2 * rootFloor n + if rootFloor n ^ 2 = n then 0 else 1

/-- The root of a positive finite value: its power of two is made even first. -/
def FpFormat.rootFinite (F : FpFormat) (rm : RoundingMode) (m : Nat) (q : Int) : Nat :=
  let k := 2 * (F.fracBits + 3) + (q % 2).toNat
  F.round rm false (stickyRoot (m * 2 ^ k)) ((q - k) / 2 - 1)

/-- Square root; of a negative number a NaN, of -0 it is -0 (R356, R364). -/
def FpFormat.sqrt (F : FpFormat) (rm : RoundingMode) (a : Nat) : Option Nat :=
  match F.value a with
  | .nan => none
  | .inf neg => if neg then none else some F.infinity
  | .num neg m q =>
    if m = 0 then some (F.sign neg) else if neg then none else some (F.rootFinite rm m q)

/-- The magnitude of a finite value as a whole number, rounded by the mode when it has a fraction. -/
def wholeNumber (rm : RoundingMode) (neg : Bool) (m : Nat) (q : Int) : Nat := scaled rm neg m q 0

/-- RINT: an integral value in the same format, rounded by the mode (R372). -/
def FpFormat.rint (F : FpFormat) (rm : RoundingMode) (a : Nat) : Option Nat :=
  match F.value a with
  | .nan => none
  | .inf neg => some (F.sign neg + F.infinity)
  | .num neg m q => some (F.round rm neg (wholeNumber rm neg m q) 0)

/-- The conversion of a pattern of one format to another (R366, R367). -/
def FpFormat.convert (F G : FpFormat) (rm : RoundingMode) (a : Nat) : Option Nat :=
  match F.value a with
  | .nan => none
  | .inf neg => some (G.sign neg + G.infinity)
  | .num neg m q => some (G.round rm neg m q)

/-- `fp.from_int_P`: a 64-bit signed integer, rounded to the format (R368, R369, D23). -/
def FpFormat.ofWord (F : FpFormat) (rm : RoundingMode) (v : Word) : Nat := F.round rm (decide (v.toInt < 0)) v.toInt.natAbs 0

/-- `fp.to_int_P`: rounded by the mode, as RINT; none for a NaN, an infinity or a value outside [-2^63, 2^63) (R370, D23). -/
def FpFormat.toWord (F : FpFormat) (rm : RoundingMode) (a : Nat) : Option Word :=
  match F.value a with
  | .nan => none
  | .inf _ => none
  | .num neg m q =>
    let i : Int := if neg then -(wholeNumber rm neg m q : Int) else wholeNumber rm neg m q
    if -2 ^ 63 ≤ i ∧ i < 2 ^ 63 then some (BitVec.ofInt 64 i) else none

/-! ### Classes and comparisons (R356, R374 to R385) -/

/-- `fp.isnan_P`. -/
def FpFormat.isNan (F : FpFormat) (p : Nat) : Bool := decide (F.expOf p = F.topExp) && decide (F.fracOf p ≠ 0)
/-- `fp.isinf_P`: an infinity of either sign (R382). -/
def FpFormat.isInf (F : FpFormat) (p : Nat) : Bool := decide (F.expOf p = F.topExp) && decide (F.fracOf p = 0)

/-- A number that orders the patterns that are no NaN as the values they stand for; +0 and -0 both give 0. -/
def FpFormat.order (F : FpFormat) (p : Nat) : Int := if F.negOf p then -(F.magnitude p : Int) else F.magnitude p

/-- Two operands can be compared when neither is a NaN (R356). -/
def FpFormat.ordered (F : FpFormat) (a b : Nat) : Bool := !F.isNan a && !F.isNan b
/-- `fp.eq_P`: +0 equals -0; a NaN equals nothing (R356, R374). -/
def FpFormat.eq (F : FpFormat) (a b : Nat) : Bool := F.ordered a b && decide (F.order a = F.order b)
/-- `fp.lt_P`: false when an operand is a NaN (R356, R378). -/
def FpFormat.lt (F : FpFormat) (a b : Nat) : Bool := F.ordered a b && decide (F.order a < F.order b)
/-- `fp.ge_P`: false when an operand is a NaN (R356, R380). -/
def FpFormat.ge (F : FpFormat) (a b : Nat) : Bool := F.ordered a b && decide (F.order b ≤ F.order a)

/-- `fp.min_P`: the other operand when exactly one is a NaN, none when both are; -0 of the two zeros (R395). -/
def FpFormat.min (F : FpFormat) (a b : Nat) : Option Nat :=
  if F.isNan a then if F.isNan b then none else some b
  else if F.isNan b then some a
  else if F.order a = F.order b then some (if F.negOf a then a else b)
  else if F.order a < F.order b then some a else some b

/-- `fp.max_P`: as `fp.min_P`, with +0 of the two zeros (R397). -/
def FpFormat.max (F : FpFormat) (a b : Nat) : Option Nat :=
  if F.isNan a then if F.isNan b then none else some b
  else if F.isNan b then some a
  else if F.order a = F.order b then some (if F.negOf a then b else a)
  else if F.order a < F.order b then some b else some a

/-- A drawn pattern kept a NaN: its exponent is all ones and its fraction is not zero (R356; log entry 39). -/
def FpFormat.drawnNan (F : FpFormat) (draw : Nat) : Nat :=
  F.sign (F.negOf draw) + F.infinity + if F.fracOf draw = 0 then 1 else F.fracOf draw

/-! ### The instances -/

/-- A result pattern, or the drawn NaN. -/
def FpFormat.settle (F : FpFormat) {w : Nat} (draw : BitVec w) (r : Option Nat) : BitVec w :=
  match r with
  | some p => BitVec.ofNat w p
  | none => BitVec.ofNat w (F.drawnNan draw.toNat)

/-- A function of one pattern, as a function on bit vectors. -/
def FpFormat.unary (F : FpFormat) {w : Nat} (draw : BitVec 64 → BitVec 64 → BitVec w) (f : Nat → Option Nat) (a : BitVec w) : BitVec w :=
  F.settle (draw (a.setWidth 64) 0) (f a.toNat)

/-- A function of two patterns, as a function on bit vectors. -/
def FpFormat.binary (F : FpFormat) {w : Nat} (draw : BitVec 64 → BitVec 64 → BitVec w) (f : Nat → Nat → Option Nat)
    (a b : BitVec w) : BitVec w :=
  F.settle (draw (a.setWidth 64) (b.setWidth 64)) (f a.toNat b.toNat)

/-- The IEEE 754 functions of one precision: a format, a rounding mode, the NaNs drawn and the open results of `fp.to_int_P`.
ABS and NEG work on the sign bit alone (D37); NE is the negation of EQ (R376); the functions of three operands are two functions
of two, left to right, each rounded (R400, R404, D32; log entry 32). -/
def FpFormat.functions (F : FpFormat) (w : Nat) (rm : RoundingMode) (nan : NanSource → BitVec 64 → BitVec 64 → BitVec w)
    (openInt : BitVec w → Word) : FpFunctions w :=
  let add := F.binary (nan .add) (F.add rm)
  let mul := F.binary (nan .mul) (F.mul rm)
  let min := F.binary (nan .min) F.min
  let max := F.binary (nan .max) F.max
  { abs := fun a => a &&& ~~~BitVec.intMin w
    neg := fun a => a ^^^ BitVec.intMin w
    sqrt := F.unary (nan .sqrt) (F.sqrt rm)
    rint := F.unary (nan .rint) (F.rint rm)
    fromInt := fun v => BitVec.ofNat w (F.ofWord rm v)
    toInt := fun a => (F.toWord rm a.toNat).getD (openInt a)
    eq := fun a b => F.eq a.toNat b.toNat
    ne := fun a b => !F.eq a.toNat b.toNat
    lt := fun a b => F.lt a.toNat b.toNat
    ge := fun a b => F.ge a.toNat b.toNat
    isInf := fun a => F.isInf a.toNat
    isNan := fun a => F.isNan a.toNat
    add := add
    mul := mul
    div := F.binary (nan .div) (F.div rm)
    min := min
    max := max
    add3 := fun a b c => add (add a b) c
    madd := fun a b c => add (mul a b) c
    min3 := fun a b c => min (min a b) c
    max3 := fun a b c => max (max a b) c }

/-- The IEEE 754 instance that rounds by a mode (R356, R357, D22; log entry 22). -/
def ieee (rm : RoundingMode) : FpRecord where
  rm := rm
  single := single.functions 32 rm (nanDrawS rm) (toIntOpenS rm)
  double := double.functions 64 rm (nanDrawD rm) (toIntOpenD rm)
  narrow a := single.settle (nanDrawS rm .narrow a 0) (double.convert single rm a.toNat)
  widen a := double.settle (nanDrawD rm .widen (a.setWidth 64) 0) (single.convert double rm a.toNat)

/-- The record that a value of the parameter `fp` stands for (R4, R356). -/
def fpRecord : FpInstance → FpRecord
  | .ieee rm => ieee rm
  | .supplied n => suppliedFp n

/-- The machine's `fp` (R356). -/
def State.fp (s : State) : FpRecord := fpRecord s.fpInstance

/-! ### The register halves (R351, R352) -/

/-- `lo(v)`: a single-precision source is the low 32 bits of its register (R351). -/
def lo (v : Word) : BitVec 32 := v.extractLsb' 0 32

/-- `zext64(r)`: a single-precision result is zero-extended (R351). -/
def singleResult (r : BitVec 32) : Word := r.zeroExtend 64

end Sys2Proof.Machine
end

