-- ==== Sys2Proof/Machine/Functions.lean ====
section
/-! DEFINITION. The integer functions: what the ALU, ALUI, RET, SHIFT and ALU3 instructions compute of their source values
(42_integer.md, 43_three_operand.md). All arithmetic is on 64-bit values modulo 2^64 (R7). -/

namespace Sys2Proof.Machine

open Sys2Proof

/-! ### Arithmetic and logic of two values (R225 to R232, R241 to R248) -/

/-- ADD (R225, R241). -/
def fnAdd (a b : Word) : Word := a + b
/-- NADD: the first value is negated (R221, R226, R242). -/
def fnNadd (a b : Word) : Word := (0 - a) + b
/-- AND (R227, R243). -/
def fnAnd (a b : Word) : Word := a &&& b
/-- CAND: the first value is complemented (R221, R228, R244). -/
def fnCand (a b : Word) : Word := ~~~a &&& b
/-- OR (R229, R245). -/
def fnOr (a b : Word) : Word := a ||| b
/-- COR: the first value is complemented (R221, R230, R246). -/
def fnCor (a b : Word) : Word := ~~~a ||| b
/-- XOR (R231, R247). -/
def fnXor (a b : Word) : Word := a ^^^ b
/-- XNOR (R232). -/
def fnXnor (a b : Word) : Word := ~~~(a ^^^ b)

/-! ### Compares, minimum and maximum (R222, R223, R233 to R240, R249 to R255, R286) -/

/-- EQ (R233, R249). -/
def fnEq (a b : Word) : Word := boolWord (a == b)
/-- NE (R234, R250). -/
def fnNe (a b : Word) : Word := boolWord (a != b)
/-- LT, signed (R235, R251). -/
def fnLt (a b : Word) : Word := boolWord (ltSigned a b)
/-- GE, signed (R236, R252). -/
def fnGe (a b : Word) : Word := boolWord (geSigned a b)
/-- LTU, unsigned (R237, R253). -/
def fnLtu (a b : Word) : Word := boolWord (ltUnsigned a b)
/-- GEU, unsigned (R238, R254). -/
def fnGeu (a b : Word) : Word := boolWord (geUnsigned a b)
/-- MIN, signed (R239, R255, D8; log entry 8). -/
def fnMin (a b : Word) : Word := if ltSigned a b then a else b
/-- MAX, signed (R240, R286, D8; log entry 8). -/
def fnMax (a b : Word) : Word := if ltSigned a b then b else a

/-! ### Shifts and rotates (R264 to R267, R274 to R277) -/

/-- The shift amount that a register gives: its lower 6 bits (section 8 of 42_integer.md). -/
def shiftAmount (b : Word) : Nat := (b.extractLsb' 0 6).toNat

/-- SHL (R274). -/
def fnShl (a : Word) (n : Nat) : Word := a <<< n
/-- SHR (R275). -/
def fnShr (a : Word) (n : Nat) : Word := a >>> n
/-- SAR (R276). -/
def fnSar (a : Word) (n : Nat) : Word := a.sshiftRight n
/-- ROR (R267, R277). -/
def fnRor (a : Word) (n : Nat) : Word := if n = 0 then a else a >>> n ||| a <<< (64 - n)
/-- SHLR: shift left, then right, through a 64-bit intermediate value (R264, R265). -/
def fnShlr (a : Word) (l r : Nat) : Word := fnShr (fnShl a l) r
/-- SALR: shift left, then arithmetic right (R266). -/
def fnSalr (a : Word) (l r : Nat) : Word := fnSar (fnShl a l) r

/-! ### Multiplication and division (R268 to R273, R278 to R282) -/

/-- MUL: the low 64 bits of the product (R268, R278). -/
def fnMul (a b : Word) : Word := a * b

/-- The operands for which a signed quotient is open: a zero divisor, and -2^63 divided by -1 (R269). -/
def signedCorner (a b : Word) : Bool := decide (b = 0) || (decide (a.toInt = -2 ^ 63) && decide (b.toInt = -1))

/-- DIV: the signed quotient rounded toward zero, or the open result (R269, R279, D7; log entry 7). -/
def fnDiv (a b : Word) : Word :=
  if signedCorner a b then Config.divCorner .div a b else BitVec.ofInt 64 (a.toInt.tdiv b.toInt)
/-- MOD: the signed remainder, with the sign of the dividend, or the open result (R269, R280, D7). -/
def fnMod (a b : Word) : Word :=
  if signedCorner a b then Config.divCorner .mod a b else BitVec.ofInt 64 (a.toInt.tmod b.toInt)
/-- DIVU: the unsigned quotient, or the open result (R269, R281, D7). -/
def fnDivu (a b : Word) : Word :=
  if b = 0 then Config.divCorner .divu a b else BitVec.ofNat 64 (a.toNat / b.toNat)
/-- MODU: the unsigned remainder, or the open result (R269, R282, D7). -/
def fnModu (a b : Word) : Word :=
  if b = 0 then Config.divCorner .modu a b else BitVec.ofNat 64 (a.toNat % b.toNat)

/-! ### Add shifted (R283, R284) -/

/-- ADDS (R283). -/
def fnAdds (a b : Word) (n : Nat) : Word := a + b <<< n
/-- NADDS (R284). -/
def fnNadds (a b : Word) (n : Nat) : Word := (0 - a) + b <<< n

/-! ### Three sources: arithmetic and logic (R304 to R311; D10, log entry 10) -/

/-- ADD of three (R304). -/
def fnAdd3 (a b c : Word) : Word := a + b + c
/-- NADD of three (R305). -/
def fnNadd3 (a b c : Word) : Word := (0 - a) + b + c
/-- AND of three (R306). -/
def fnAnd3 (a b c : Word) : Word := a &&& b &&& c
/-- CAND of three (R307). -/
def fnCand3 (a b c : Word) : Word := ~~~a &&& b &&& c
/-- OR of three (R308). -/
def fnOr3 (a b c : Word) : Word := a ||| b ||| c
/-- COR of three (R309). -/
def fnCor3 (a b c : Word) : Word := ~~~a ||| b ||| c
/-- XOR of three (R310). -/
def fnXor3 (a b c : Word) : Word := a ^^^ b ^^^ c
/-- XNOR of three (R311). -/
def fnXnor3 (a b c : Word) : Word := ~~~a ^^^ b ^^^ c

/-! ### Three sources: compare combined with AND or OR (R312 to R323; D9, log entry 9) -/

/-- `bool(nz(A) and p)`: the first value is read as a Boolean (R312 to R317, R412 to R419). -/
def andCompare (a : Word) (p : Bool) : Word := boolWord (isTrue a && p)
/-- `bool(nz(A) or p)` (R318 to R323, R420 to R427). -/
def orCompare (a : Word) (p : Bool) : Word := boolWord (isTrue a || p)

/-! ### Three sources: minimum and maximum (R324 to R327; D8 and D11, log entries 8 and 11) -/

/-- The lesser of two unsigned numbers. -/
def lesserU (a b : Word) : Word := if ltUnsigned a b then a else b
/-- The greater of two unsigned numbers. -/
def greaterU (a b : Word) : Word := if ltUnsigned a b then b else a
/-- MINU of three (R324). -/
def fnMinu3 (a b c : Word) : Word := lesserU (lesserU a b) c
/-- MAXU of three (R325). -/
def fnMaxu3 (a b c : Word) : Word := greaterU (greaterU a b) c
/-- MIN of three, signed (R326). -/
def fnMin3 (a b c : Word) : Word := fnMin (fnMin a b) c
/-- MAX of three, signed (R327). -/
def fnMax3 (a b c : Word) : Word := fnMax (fnMax a b) c

/-! ### Select and multiply-add (R330 to R335) -/

/-- SEL (R330). -/
def fnSel (a b c : Word) : Word := if a ≠ 0 then b else c
/-- SELN (R331). -/
def fnSeln (a b c : Word) : Word := if a.toInt < 0 then b else c
/-- SELP (R332). -/
def fnSelp (a b c : Word) : Word := if 0 < a.toInt then b else c
/-- MADD: the low 64 bits of the product plus the third value (R334). -/
def fnMadd (a b c : Word) : Word := a * b + c
/-- NMADD: the third value minus the product, low 64 bits (R335). -/
def fnNmadd (a b c : Word) : Word := c - a * b

end Sys2Proof.Machine
end

