-- ==== Sys2Proof/Machine/Float.lean ====
section
/-! DEFINITION. The floating-point instructions FPU1, FPU2 and FPU3 (44_floating_point.md). None raises an exception (R355). -/

namespace Sys2Proof.Machine

open Sys2Proof

/-! ### FPU1, floating-point R format (R115) -/

/-- ABS.S (R360). -/
def execAbsS (a d : Reg) (s : State) : Answer :=
  .next (s.result d (singleResult (s.fp.single.abs (lo (s.readX a)))))

/-- ABS.D (R361). -/
def execAbsD (a d : Reg) (s : State) : Answer :=
  .next (s.result d (s.fp.double.abs (s.readX a)))

/-- NEG.S (R362). -/
def execNegS (a d : Reg) (s : State) : Answer :=
  .next (s.result d (singleResult (s.fp.single.neg (lo (s.readX a)))))

/-- NEG.D (R363). -/
def execNegD (a d : Reg) (s : State) : Answer :=
  .next (s.result d (s.fp.double.neg (s.readX a)))

/-- SQRT.S (R364). -/
def execSqrtS (a d : Reg) (s : State) : Answer :=
  .next (s.result d (singleResult (s.fp.single.sqrt (lo (s.readX a)))))

/-- SQRT.D (R365). -/
def execSqrtD (a d : Reg) (s : State) : Answer :=
  .next (s.result d (s.fp.double.sqrt (s.readX a)))

/-- CVTS.D (R366). -/
def execCvtSD (a d : Reg) (s : State) : Answer :=
  .next (s.result d (singleResult (s.fp.narrow (s.readX a))))

/-- CVTD.S (R367). -/
def execCvtDS (a d : Reg) (s : State) : Answer :=
  .next (s.result d (s.fp.widen (lo (s.readX a))))

/-- CVTS.I (R368). -/
def execCvtSI (a d : Reg) (s : State) : Answer :=
  .next (s.result d (singleResult (s.fp.single.fromInt (s.readX a))))

/-- CVTD.I (R369). -/
def execCvtDI (a d : Reg) (s : State) : Answer :=
  .next (s.result d (s.fp.double.fromInt (s.readX a)))

/-- CVTI.S (R370). -/
def execCvtIS (a d : Reg) (s : State) : Answer :=
  .next (s.result d (s.fp.single.toInt (lo (s.readX a))))

/-- CVTI.D (R371). -/
def execCvtID (a d : Reg) (s : State) : Answer :=
  .next (s.result d (s.fp.double.toInt (s.readX a)))

/-- RINT.S (R372). -/
def execRintS (a d : Reg) (s : State) : Answer :=
  .next (s.result d (singleResult (s.fp.single.rint (lo (s.readX a)))))

/-- RINT.D (R373). -/
def execRintD (a d : Reg) (s : State) : Answer :=
  .next (s.result d (s.fp.double.rint (s.readX a)))

/-! ### FPU2, floating-point R format (R116) -/

/-- EQ.S (R374). -/
def execEqS (a b d : Reg) (s : State) : Answer :=
  .next (s.result d (boolWord (s.fp.single.eq (lo (s.readX a)) (lo (s.readX b)))))

/-- EQ.D (R375). -/
def execEqD (a b d : Reg) (s : State) : Answer :=
  .next (s.result d (boolWord (s.fp.double.eq (s.readX a) (s.readX b))))

/-- NE.S (R376). -/
def execNeS (a b d : Reg) (s : State) : Answer :=
  .next (s.result d (boolWord (s.fp.single.ne (lo (s.readX a)) (lo (s.readX b)))))

/-- NE.D (R377). -/
def execNeD (a b d : Reg) (s : State) : Answer :=
  .next (s.result d (boolWord (s.fp.double.ne (s.readX a) (s.readX b))))

/-- LT.S (R378); GT.S is this with a and b exchanged (R386). -/
def execLtS (a b d : Reg) (s : State) : Answer :=
  .next (s.result d (boolWord (s.fp.single.lt (lo (s.readX a)) (lo (s.readX b)))))

/-- LT.D (R379); GT.D is this with a and b exchanged (R386). -/
def execLtD (a b d : Reg) (s : State) : Answer :=
  .next (s.result d (boolWord (s.fp.double.lt (s.readX a) (s.readX b))))

/-- GE.S (R380); LE.S is this with a and b exchanged (R386). -/
def execGeS (a b d : Reg) (s : State) : Answer :=
  .next (s.result d (boolWord (s.fp.single.ge (lo (s.readX a)) (lo (s.readX b)))))

/-- GE.D (R381); LE.D is this with a and b exchanged (R386). -/
def execGeD (a b d : Reg) (s : State) : Answer :=
  .next (s.result d (boolWord (s.fp.double.ge (s.readX a) (s.readX b))))

/-- INF.S (R382). -/
def execInfS (a b d : Reg) (s : State) : Answer :=
  .next (s.result d (boolWord (s.fp.single.isInf (lo (s.readX a)) || s.fp.single.isInf (lo (s.readX b)))))

/-- INF.D (R383). -/
def execInfD (a b d : Reg) (s : State) : Answer :=
  .next (s.result d (boolWord (s.fp.double.isInf (s.readX a) || s.fp.double.isInf (s.readX b))))

/-- NAN.S (R384): it serves for the unordered compare, of which there is none (R386). -/
def execNanS (a b d : Reg) (s : State) : Answer :=
  .next (s.result d (boolWord (s.fp.single.isNan (lo (s.readX a)) || s.fp.single.isNan (lo (s.readX b)))))

/-- NAN.D (R385): it serves for the unordered compare, of which there is none (R386). -/
def execNanD (a b d : Reg) (s : State) : Answer :=
  .next (s.result d (boolWord (s.fp.double.isNan (s.readX a) || s.fp.double.isNan (s.readX b))))

/-- ADD.S (R387). -/
def execAddS (a b d : Reg) (s : State) : Answer :=
  .next (s.result d (singleResult (s.fp.single.add (lo (s.readX a)) (lo (s.readX b)))))

/-- ADD.D (R388). -/
def execAddD (a b d : Reg) (s : State) : Answer :=
  .next (s.result d (s.fp.double.add (s.readX a) (s.readX b)))

/-- NADD.S (R389); SUB.S is this with a and b exchanged (R399). -/
def execNaddS (a b d : Reg) (s : State) : Answer :=
  .next (s.result d (singleResult (s.fp.single.add (s.fp.single.neg (lo (s.readX a))) (lo (s.readX b)))))

/-- NADD.D (R390); SUB.D is this with a and b exchanged (R399). -/
def execNaddD (a b d : Reg) (s : State) : Answer :=
  .next (s.result d (s.fp.double.add (s.fp.double.neg (s.readX a)) (s.readX b)))

/-- MUL.S (R391). -/
def execMulS (a b d : Reg) (s : State) : Answer :=
  .next (s.result d (singleResult (s.fp.single.mul (lo (s.readX a)) (lo (s.readX b)))))

/-- MUL.D (R392). -/
def execMulD (a b d : Reg) (s : State) : Answer :=
  .next (s.result d (s.fp.double.mul (s.readX a) (s.readX b)))

/-- DIV.S (R393). -/
def execDivS (a b d : Reg) (s : State) : Answer :=
  .next (s.result d (singleResult (s.fp.single.div (lo (s.readX a)) (lo (s.readX b)))))

/-- DIV.D (R394). -/
def execDivD (a b d : Reg) (s : State) : Answer :=
  .next (s.result d (s.fp.double.div (s.readX a) (s.readX b)))

/-- MIN.S (R395). -/
def execMinS (a b d : Reg) (s : State) : Answer :=
  .next (s.result d (singleResult (s.fp.single.min (lo (s.readX a)) (lo (s.readX b)))))

/-- MIN.D (R396). -/
def execMinD (a b d : Reg) (s : State) : Answer :=
  .next (s.result d (s.fp.double.min (s.readX a) (s.readX b)))

/-- MAX.S (R397). -/
def execMaxS (a b d : Reg) (s : State) : Answer :=
  .next (s.result d (singleResult (s.fp.single.max (lo (s.readX a)) (lo (s.readX b)))))

/-- MAX.D (R398). -/
def execMaxD (a b d : Reg) (s : State) : Answer :=
  .next (s.result d (s.fp.double.max (s.readX a) (s.readX b)))

/-! ### FPU3, floating-point R format (R117) -/

/-- ANDEQ.S (R412). -/
def execAndeqS (a b c d : Reg) (s : State) : Answer :=
  .next (s.result d (andCompare (s.readX a) (s.fp.single.eq (lo (s.readX b)) (lo (s.readX c)))))

/-- ANDEQ.D (R413). -/
def execAndeqD (a b c d : Reg) (s : State) : Answer :=
  .next (s.result d (andCompare (s.readX a) (s.fp.double.eq (s.readX b) (s.readX c))))

/-- ANDNE.S (R414). -/
def execAndneS (a b c d : Reg) (s : State) : Answer :=
  .next (s.result d (andCompare (s.readX a) (s.fp.single.ne (lo (s.readX b)) (lo (s.readX c)))))

/-- ANDNE.D (R415). -/
def execAndneD (a b c d : Reg) (s : State) : Answer :=
  .next (s.result d (andCompare (s.readX a) (s.fp.double.ne (s.readX b) (s.readX c))))

/-- ANDLT.S (R416). -/
def execAndltS (a b c d : Reg) (s : State) : Answer :=
  .next (s.result d (andCompare (s.readX a) (s.fp.single.lt (lo (s.readX b)) (lo (s.readX c)))))

/-- ANDLT.D (R417). -/
def execAndltD (a b c d : Reg) (s : State) : Answer :=
  .next (s.result d (andCompare (s.readX a) (s.fp.double.lt (s.readX b) (s.readX c))))

/-- ANDGE.S (R418). -/
def execAndgeS (a b c d : Reg) (s : State) : Answer :=
  .next (s.result d (andCompare (s.readX a) (s.fp.single.ge (lo (s.readX b)) (lo (s.readX c)))))

/-- ANDGE.D (R419). -/
def execAndgeD (a b c d : Reg) (s : State) : Answer :=
  .next (s.result d (andCompare (s.readX a) (s.fp.double.ge (s.readX b) (s.readX c))))

/-- OREQ.S (R420). -/
def execOreqS (a b c d : Reg) (s : State) : Answer :=
  .next (s.result d (orCompare (s.readX a) (s.fp.single.eq (lo (s.readX b)) (lo (s.readX c)))))

/-- OREQ.D (R421). -/
def execOreqD (a b c d : Reg) (s : State) : Answer :=
  .next (s.result d (orCompare (s.readX a) (s.fp.double.eq (s.readX b) (s.readX c))))

/-- ORNE.S (R422). -/
def execOrneS (a b c d : Reg) (s : State) : Answer :=
  .next (s.result d (orCompare (s.readX a) (s.fp.single.ne (lo (s.readX b)) (lo (s.readX c)))))

/-- ORNE.D (R423). -/
def execOrneD (a b c d : Reg) (s : State) : Answer :=
  .next (s.result d (orCompare (s.readX a) (s.fp.double.ne (s.readX b) (s.readX c))))

/-- ORLT.S (R424). -/
def execOrltS (a b c d : Reg) (s : State) : Answer :=
  .next (s.result d (orCompare (s.readX a) (s.fp.single.lt (lo (s.readX b)) (lo (s.readX c)))))

/-- ORLT.D (R425). -/
def execOrltD (a b c d : Reg) (s : State) : Answer :=
  .next (s.result d (orCompare (s.readX a) (s.fp.double.lt (s.readX b) (s.readX c))))

/-- ORGE.S (R426). -/
def execOrgeS (a b c d : Reg) (s : State) : Answer :=
  .next (s.result d (orCompare (s.readX a) (s.fp.single.ge (lo (s.readX b)) (lo (s.readX c)))))

/-- ORGE.D (R427). -/
def execOrgeD (a b c d : Reg) (s : State) : Answer :=
  .next (s.result d (orCompare (s.readX a) (s.fp.double.ge (s.readX b) (s.readX c))))

/-- ADD.S__three-operand (R400). -/
def execAdd3S (a b c d : Reg) (s : State) : Answer :=
  .next (s.result d (singleResult (s.fp.single.add3 (lo (s.readX a)) (lo (s.readX b)) (lo (s.readX c)))))

/-- ADD.D__three-operand (R401). -/
def execAdd3D (a b c d : Reg) (s : State) : Answer :=
  .next (s.result d (s.fp.double.add3 (s.readX a) (s.readX b) (s.readX c)))

/-- NADD.S__three-operand (R402). -/
def execNadd3S (a b c d : Reg) (s : State) : Answer :=
  .next (s.result d (singleResult (s.fp.single.add3 (s.fp.single.neg (lo (s.readX a))) (lo (s.readX b)) (lo (s.readX c)))))

/-- NADD.D__three-operand (R403). -/
def execNadd3D (a b c d : Reg) (s : State) : Answer :=
  .next (s.result d (s.fp.double.add3 (s.fp.double.neg (s.readX a)) (s.readX b) (s.readX c)))

/-- MADD.S (R404). -/
def execMaddS (a b c d : Reg) (s : State) : Answer :=
  .next (s.result d (singleResult (s.fp.single.madd (lo (s.readX a)) (lo (s.readX b)) (lo (s.readX c)))))

/-- MADD.D (R405). -/
def execMaddD (a b c d : Reg) (s : State) : Answer :=
  .next (s.result d (s.fp.double.madd (s.readX a) (s.readX b) (s.readX c)))

/-- NMADD.S (R406). -/
def execNmaddS (a b c d : Reg) (s : State) : Answer :=
  .next (s.result d (singleResult (s.fp.single.madd (s.fp.single.neg (lo (s.readX a))) (lo (s.readX b)) (lo (s.readX c)))))

/-- NMADD.D (R407). -/
def execNmaddD (a b c d : Reg) (s : State) : Answer :=
  .next (s.result d (s.fp.double.madd (s.fp.double.neg (s.readX a)) (s.readX b) (s.readX c)))

/-- MIN.S__three-operand (R408). -/
def execMin3S (a b c d : Reg) (s : State) : Answer :=
  .next (s.result d (singleResult (s.fp.single.min3 (lo (s.readX a)) (lo (s.readX b)) (lo (s.readX c)))))

/-- MIN.D__three-operand (R409). -/
def execMin3D (a b c d : Reg) (s : State) : Answer :=
  .next (s.result d (s.fp.double.min3 (s.readX a) (s.readX b) (s.readX c)))

/-- MAX.S__three-operand (R410). -/
def execMax3S (a b c d : Reg) (s : State) : Answer :=
  .next (s.result d (singleResult (s.fp.single.max3 (lo (s.readX a)) (lo (s.readX b)) (lo (s.readX c)))))

/-- MAX.D__three-operand (R411). -/
def execMax3D (a b c d : Reg) (s : State) : Answer :=
  .next (s.result d (s.fp.double.max3 (s.readX a) (s.readX b) (s.readX c)))

end Sys2Proof.Machine
end

