-- ==== Sys2Proof/Machine/Immediate.lean ====
section
/-! DEFINITION. NOP, the ALUI opcodes with their short and long immediates, and RET (sections 3 to 6 of 42_integer.md). -/

namespace Sys2Proof.Machine

open Sys2Proof

/-- The end of an ALUI1, ALUI2 or ALUI3: once its long immediate is read, the result goes to register `b` and execution
continues at `pc + 4`, at the first NOP (R256). -/
def State.longResult (s : State) (b : Reg) (imm : Attempt Word) (f : Word → Word) : Answer :=
  finish s (imm.bind fun v => .done (s.result b (f v)))

/-- The end of a RET: the result goes to register `b`, and PC.ADDR to the address that register 31 held before (R262, D12; log
entry 12). -/
def State.returning (s : State) (b : Reg) (v : Word) : State := (s.writeX b v).setAddr (wordAddr (s.readX linkNo))

/-! ### NOP (R97, R258) -/

/-- NOP (R258). -/
def execNop (_imm : BitVec 26) (s : State) : Answer :=
  .next s.advance

/-! ### ALUI, I format (R111) -/

/-- ADD__immediate (R241, R257). -/
def execAddI (a b : Reg) (imm : BitVec 12) (s : State) : Answer :=
  .next (s.result b (fnAdd (s.readX a) (imm12 imm)))

/-- NADD__immediate (R242, R257). -/
def execNaddI (a b : Reg) (imm : BitVec 12) (s : State) : Answer :=
  .next (s.result b (fnNadd (s.readX a) (imm12 imm)))

/-- AND__immediate (R243, R257). -/
def execAndI (a b : Reg) (imm : BitVec 12) (s : State) : Answer :=
  .next (s.result b (fnAnd (s.readX a) (imm12 imm)))

/-- CAND__immediate (R244, R257). -/
def execCandI (a b : Reg) (imm : BitVec 12) (s : State) : Answer :=
  .next (s.result b (fnCand (s.readX a) (imm12 imm)))

/-- OR__immediate (R245, R257). -/
def execOrI (a b : Reg) (imm : BitVec 12) (s : State) : Answer :=
  .next (s.result b (fnOr (s.readX a) (imm12 imm)))

/-- COR__immediate (R246, R257). -/
def execCorI (a b : Reg) (imm : BitVec 12) (s : State) : Answer :=
  .next (s.result b (fnCor (s.readX a) (imm12 imm)))

/-- XOR__immediate (R247, R257). -/
def execXorI (a b : Reg) (imm : BitVec 12) (s : State) : Answer :=
  .next (s.result b (fnXor (s.readX a) (imm12 imm)))

/-- SET (R248, R257). -/
def execSetI (_a b : Reg) (imm : BitVec 12) (s : State) : Answer :=
  .next (s.result b (imm12 imm))

/-- EQ__immediate (R249, R257). -/
def execEqI (a b : Reg) (imm : BitVec 12) (s : State) : Answer :=
  .next (s.result b (fnEq (s.readX a) (imm12 imm)))

/-- NE__immediate (R250, R257). -/
def execNeI (a b : Reg) (imm : BitVec 12) (s : State) : Answer :=
  .next (s.result b (fnNe (s.readX a) (imm12 imm)))

/-- LT__immediate (R251, R257). -/
def execLtI (a b : Reg) (imm : BitVec 12) (s : State) : Answer :=
  .next (s.result b (fnLt (s.readX a) (imm12 imm)))

/-- GE__immediate (R252, R257). -/
def execGeI (a b : Reg) (imm : BitVec 12) (s : State) : Answer :=
  .next (s.result b (fnGe (s.readX a) (imm12 imm)))

/-- LTU__immediate (R253, R257). -/
def execLtuI (a b : Reg) (imm : BitVec 12) (s : State) : Answer :=
  .next (s.result b (fnLtu (s.readX a) (imm12 imm)))

/-- GEU__immediate (R254, R257). -/
def execGeuI (a b : Reg) (imm : BitVec 12) (s : State) : Answer :=
  .next (s.result b (fnGeu (s.readX a) (imm12 imm)))

/-- MIN__immediate (R255, R257). -/
def execMinI (a b : Reg) (imm : BitVec 12) (s : State) : Answer :=
  .next (s.result b (fnMin (s.readX a) (imm12 imm)))

/-- MAX__immediate (R286, R257). -/
def execMaxI (a b : Reg) (imm : BitVec 12) (s : State) : Answer :=
  .next (s.result b (fnMax (s.readX a) (imm12 imm)))

/-! ### ALUI1: I format and one NOP (R107, R111) -/

/-- ADD__ALUI1 (R241, R259, R256). -/
def execAddI1 (a b : Reg) (imm : BitVec 12) (s : State) : Answer :=
  s.longResult b (s.readImm1 imm) (fun v => fnAdd (s.readX a) v)

/-- NADD__ALUI1 (R242, R259, R256). -/
def execNaddI1 (a b : Reg) (imm : BitVec 12) (s : State) : Answer :=
  s.longResult b (s.readImm1 imm) (fun v => fnNadd (s.readX a) v)

/-- AND__ALUI1 (R243, R259, R256). -/
def execAndI1 (a b : Reg) (imm : BitVec 12) (s : State) : Answer :=
  s.longResult b (s.readImm1 imm) (fun v => fnAnd (s.readX a) v)

/-- CAND__ALUI1 (R244, R259, R256). -/
def execCandI1 (a b : Reg) (imm : BitVec 12) (s : State) : Answer :=
  s.longResult b (s.readImm1 imm) (fun v => fnCand (s.readX a) v)

/-- OR__ALUI1 (R245, R259, R256). -/
def execOrI1 (a b : Reg) (imm : BitVec 12) (s : State) : Answer :=
  s.longResult b (s.readImm1 imm) (fun v => fnOr (s.readX a) v)

/-- COR__ALUI1 (R246, R259, R256). -/
def execCorI1 (a b : Reg) (imm : BitVec 12) (s : State) : Answer :=
  s.longResult b (s.readImm1 imm) (fun v => fnCor (s.readX a) v)

/-- XOR__ALUI1 (R247, R259, R256). -/
def execXorI1 (a b : Reg) (imm : BitVec 12) (s : State) : Answer :=
  s.longResult b (s.readImm1 imm) (fun v => fnXor (s.readX a) v)

/-- SET__ALUI1 (R248, R259, R256). -/
def execSetI1 (_a b : Reg) (imm : BitVec 12) (s : State) : Answer :=
  s.longResult b (s.readImm1 imm) id

/-- EQ__ALUI1 (R249, R259, R256). -/
def execEqI1 (a b : Reg) (imm : BitVec 12) (s : State) : Answer :=
  s.longResult b (s.readImm1 imm) (fun v => fnEq (s.readX a) v)

/-- NE__ALUI1 (R250, R259, R256). -/
def execNeI1 (a b : Reg) (imm : BitVec 12) (s : State) : Answer :=
  s.longResult b (s.readImm1 imm) (fun v => fnNe (s.readX a) v)

/-- LT__ALUI1 (R251, R259, R256). -/
def execLtI1 (a b : Reg) (imm : BitVec 12) (s : State) : Answer :=
  s.longResult b (s.readImm1 imm) (fun v => fnLt (s.readX a) v)

/-- GE__ALUI1 (R252, R259, R256). -/
def execGeI1 (a b : Reg) (imm : BitVec 12) (s : State) : Answer :=
  s.longResult b (s.readImm1 imm) (fun v => fnGe (s.readX a) v)

/-- LTU__ALUI1 (R253, R259, R256). -/
def execLtuI1 (a b : Reg) (imm : BitVec 12) (s : State) : Answer :=
  s.longResult b (s.readImm1 imm) (fun v => fnLtu (s.readX a) v)

/-- GEU__ALUI1 (R254, R259, R256). -/
def execGeuI1 (a b : Reg) (imm : BitVec 12) (s : State) : Answer :=
  s.longResult b (s.readImm1 imm) (fun v => fnGeu (s.readX a) v)

/-- MIN__ALUI1 (R255, R259, R256). -/
def execMinI1 (a b : Reg) (imm : BitVec 12) (s : State) : Answer :=
  s.longResult b (s.readImm1 imm) (fun v => fnMin (s.readX a) v)

/-- MAX__ALUI1 (R286, R259, R256). -/
def execMaxI1 (a b : Reg) (imm : BitVec 12) (s : State) : Answer :=
  s.longResult b (s.readImm1 imm) (fun v => fnMax (s.readX a) v)

/-! ### ALUI2: I format and one NOP (R107, R111) -/

/-- ADD__ALUI2 (R241, R260, R256). -/
def execAddI2 (a b : Reg) (imm : BitVec 12) (s : State) : Answer :=
  s.longResult b (s.readImm2 imm) (fun v => fnAdd (s.readX a) v)

/-- NADD__ALUI2 (R242, R260, R256). -/
def execNaddI2 (a b : Reg) (imm : BitVec 12) (s : State) : Answer :=
  s.longResult b (s.readImm2 imm) (fun v => fnNadd (s.readX a) v)

/-- AND__ALUI2 (R243, R260, R256). -/
def execAndI2 (a b : Reg) (imm : BitVec 12) (s : State) : Answer :=
  s.longResult b (s.readImm2 imm) (fun v => fnAnd (s.readX a) v)

/-- CAND__ALUI2 (R244, R260, R256). -/
def execCandI2 (a b : Reg) (imm : BitVec 12) (s : State) : Answer :=
  s.longResult b (s.readImm2 imm) (fun v => fnCand (s.readX a) v)

/-- OR__ALUI2 (R245, R260, R256). -/
def execOrI2 (a b : Reg) (imm : BitVec 12) (s : State) : Answer :=
  s.longResult b (s.readImm2 imm) (fun v => fnOr (s.readX a) v)

/-- COR__ALUI2 (R246, R260, R256). -/
def execCorI2 (a b : Reg) (imm : BitVec 12) (s : State) : Answer :=
  s.longResult b (s.readImm2 imm) (fun v => fnCor (s.readX a) v)

/-- XOR__ALUI2 (R247, R260, R256). -/
def execXorI2 (a b : Reg) (imm : BitVec 12) (s : State) : Answer :=
  s.longResult b (s.readImm2 imm) (fun v => fnXor (s.readX a) v)

/-- SET__ALUI2 (R248, R260, R256). -/
def execSetI2 (_a b : Reg) (imm : BitVec 12) (s : State) : Answer :=
  s.longResult b (s.readImm2 imm) id

/-- EQ__ALUI2 (R249, R260, R256). -/
def execEqI2 (a b : Reg) (imm : BitVec 12) (s : State) : Answer :=
  s.longResult b (s.readImm2 imm) (fun v => fnEq (s.readX a) v)

/-- NE__ALUI2 (R250, R260, R256). -/
def execNeI2 (a b : Reg) (imm : BitVec 12) (s : State) : Answer :=
  s.longResult b (s.readImm2 imm) (fun v => fnNe (s.readX a) v)

/-- LT__ALUI2 (R251, R260, R256). -/
def execLtI2 (a b : Reg) (imm : BitVec 12) (s : State) : Answer :=
  s.longResult b (s.readImm2 imm) (fun v => fnLt (s.readX a) v)

/-- GE__ALUI2 (R252, R260, R256). -/
def execGeI2 (a b : Reg) (imm : BitVec 12) (s : State) : Answer :=
  s.longResult b (s.readImm2 imm) (fun v => fnGe (s.readX a) v)

/-- LTU__ALUI2 (R253, R260, R256). -/
def execLtuI2 (a b : Reg) (imm : BitVec 12) (s : State) : Answer :=
  s.longResult b (s.readImm2 imm) (fun v => fnLtu (s.readX a) v)

/-- GEU__ALUI2 (R254, R260, R256). -/
def execGeuI2 (a b : Reg) (imm : BitVec 12) (s : State) : Answer :=
  s.longResult b (s.readImm2 imm) (fun v => fnGeu (s.readX a) v)

/-- MIN__ALUI2 (R255, R260, R256). -/
def execMinI2 (a b : Reg) (imm : BitVec 12) (s : State) : Answer :=
  s.longResult b (s.readImm2 imm) (fun v => fnMin (s.readX a) v)

/-- MAX__ALUI2 (R286, R260, R256). -/
def execMaxI2 (a b : Reg) (imm : BitVec 12) (s : State) : Answer :=
  s.longResult b (s.readImm2 imm) (fun v => fnMax (s.readX a) v)

/-! ### ALUI3: I format and two NOPs (R107, R111) -/

/-- ADD__ALUI3 (R241, R261, R256). -/
def execAddI3 (a b : Reg) (imm : BitVec 12) (s : State) : Answer :=
  s.longResult b (s.readImm3 imm) (fun v => fnAdd (s.readX a) v)

/-- NADD__ALUI3 (R242, R261, R256). -/
def execNaddI3 (a b : Reg) (imm : BitVec 12) (s : State) : Answer :=
  s.longResult b (s.readImm3 imm) (fun v => fnNadd (s.readX a) v)

/-- AND__ALUI3 (R243, R261, R256). -/
def execAndI3 (a b : Reg) (imm : BitVec 12) (s : State) : Answer :=
  s.longResult b (s.readImm3 imm) (fun v => fnAnd (s.readX a) v)

/-- CAND__ALUI3 (R244, R261, R256). -/
def execCandI3 (a b : Reg) (imm : BitVec 12) (s : State) : Answer :=
  s.longResult b (s.readImm3 imm) (fun v => fnCand (s.readX a) v)

/-- OR__ALUI3 (R245, R261, R256). -/
def execOrI3 (a b : Reg) (imm : BitVec 12) (s : State) : Answer :=
  s.longResult b (s.readImm3 imm) (fun v => fnOr (s.readX a) v)

/-- COR__ALUI3 (R246, R261, R256). -/
def execCorI3 (a b : Reg) (imm : BitVec 12) (s : State) : Answer :=
  s.longResult b (s.readImm3 imm) (fun v => fnCor (s.readX a) v)

/-- XOR__ALUI3 (R247, R261, R256). -/
def execXorI3 (a b : Reg) (imm : BitVec 12) (s : State) : Answer :=
  s.longResult b (s.readImm3 imm) (fun v => fnXor (s.readX a) v)

/-- SET__ALUI3 (R248, R261, R256). -/
def execSetI3 (_a b : Reg) (imm : BitVec 12) (s : State) : Answer :=
  s.longResult b (s.readImm3 imm) id

/-- EQ__ALUI3 (R249, R261, R256). -/
def execEqI3 (a b : Reg) (imm : BitVec 12) (s : State) : Answer :=
  s.longResult b (s.readImm3 imm) (fun v => fnEq (s.readX a) v)

/-- NE__ALUI3 (R250, R261, R256). -/
def execNeI3 (a b : Reg) (imm : BitVec 12) (s : State) : Answer :=
  s.longResult b (s.readImm3 imm) (fun v => fnNe (s.readX a) v)

/-- LT__ALUI3 (R251, R261, R256). -/
def execLtI3 (a b : Reg) (imm : BitVec 12) (s : State) : Answer :=
  s.longResult b (s.readImm3 imm) (fun v => fnLt (s.readX a) v)

/-- GE__ALUI3 (R252, R261, R256). -/
def execGeI3 (a b : Reg) (imm : BitVec 12) (s : State) : Answer :=
  s.longResult b (s.readImm3 imm) (fun v => fnGe (s.readX a) v)

/-- LTU__ALUI3 (R253, R261, R256). -/
def execLtuI3 (a b : Reg) (imm : BitVec 12) (s : State) : Answer :=
  s.longResult b (s.readImm3 imm) (fun v => fnLtu (s.readX a) v)

/-- GEU__ALUI3 (R254, R261, R256). -/
def execGeuI3 (a b : Reg) (imm : BitVec 12) (s : State) : Answer :=
  s.longResult b (s.readImm3 imm) (fun v => fnGeu (s.readX a) v)

/-- MIN__ALUI3 (R255, R261, R256). -/
def execMinI3 (a b : Reg) (imm : BitVec 12) (s : State) : Answer :=
  s.longResult b (s.readImm3 imm) (fun v => fnMin (s.readX a) v)

/-- MAX__ALUI3 (R286, R261, R256). -/
def execMaxI3 (a b : Reg) (imm : BitVec 12) (s : State) : Answer :=
  s.longResult b (s.readImm3 imm) (fun v => fnMax (s.readX a) v)

/-! ### RET, I format (R111, R262) -/

/-- RET.ADD (R241, R262). -/
def execRetAdd (a b : Reg) (imm : BitVec 12) (s : State) : Answer :=
  .next (s.returning b (fnAdd (s.readX a) (imm12 imm)))

/-- RET.NADD (R242, R262). -/
def execRetNadd (a b : Reg) (imm : BitVec 12) (s : State) : Answer :=
  .next (s.returning b (fnNadd (s.readX a) (imm12 imm)))

/-- RET.AND (R243, R262). -/
def execRetAnd (a b : Reg) (imm : BitVec 12) (s : State) : Answer :=
  .next (s.returning b (fnAnd (s.readX a) (imm12 imm)))

/-- RET.CAND (R244, R262). -/
def execRetCand (a b : Reg) (imm : BitVec 12) (s : State) : Answer :=
  .next (s.returning b (fnCand (s.readX a) (imm12 imm)))

/-- RET.OR (R245, R262). -/
def execRetOr (a b : Reg) (imm : BitVec 12) (s : State) : Answer :=
  .next (s.returning b (fnOr (s.readX a) (imm12 imm)))

/-- RET.COR (R246, R262). -/
def execRetCor (a b : Reg) (imm : BitVec 12) (s : State) : Answer :=
  .next (s.returning b (fnCor (s.readX a) (imm12 imm)))

/-- RET.XOR (R247, R262). -/
def execRetXor (a b : Reg) (imm : BitVec 12) (s : State) : Answer :=
  .next (s.returning b (fnXor (s.readX a) (imm12 imm)))

/-- RET.SET (R248, R262). -/
def execRetSet (_a b : Reg) (imm : BitVec 12) (s : State) : Answer :=
  .next (s.returning b (imm12 imm))

/-- RET.EQ (R249, R262). -/
def execRetEq (a b : Reg) (imm : BitVec 12) (s : State) : Answer :=
  .next (s.returning b (fnEq (s.readX a) (imm12 imm)))

/-- RET.NE (R250, R262). -/
def execRetNe (a b : Reg) (imm : BitVec 12) (s : State) : Answer :=
  .next (s.returning b (fnNe (s.readX a) (imm12 imm)))

/-- RET.LT (R251, R262). -/
def execRetLt (a b : Reg) (imm : BitVec 12) (s : State) : Answer :=
  .next (s.returning b (fnLt (s.readX a) (imm12 imm)))

/-- RET.GE (R252, R262). -/
def execRetGe (a b : Reg) (imm : BitVec 12) (s : State) : Answer :=
  .next (s.returning b (fnGe (s.readX a) (imm12 imm)))

/-- RET.LTU (R253, R262). -/
def execRetLtu (a b : Reg) (imm : BitVec 12) (s : State) : Answer :=
  .next (s.returning b (fnLtu (s.readX a) (imm12 imm)))

/-- RET.GEU (R254, R262). -/
def execRetGeu (a b : Reg) (imm : BitVec 12) (s : State) : Answer :=
  .next (s.returning b (fnGeu (s.readX a) (imm12 imm)))

/-- RET.MIN (R255, R262). -/
def execRetMin (a b : Reg) (imm : BitVec 12) (s : State) : Answer :=
  .next (s.returning b (fnMin (s.readX a) (imm12 imm)))

/-- RET.MAX (R286, R262). -/
def execRetMax (a b : Reg) (imm : BitVec 12) (s : State) : Answer :=
  .next (s.returning b (fnMax (s.readX a) (imm12 imm)))

end Sys2Proof.Machine
end

