-- ==== Sys2Proof/Machine/Integer.lean ====
section
/-! DEFINITION. The ALU opcode: arithmetic, logic, compares, shifts, multiplication, division and add-shifted of two registers (sections 2, 8
and 9 of 42_integer.md). -/

namespace Sys2Proof.Machine

open Sys2Proof

/-! ### ALU, R format (R113) -/

/-- ADD (R225). -/
def execAdd (a b d : Reg) (s : State) : Answer :=
  .next (s.result d (fnAdd (s.readX a) (s.readX b)))

/-- NADD (R226). -/
def execNadd (a b d : Reg) (s : State) : Answer :=
  .next (s.result d (fnNadd (s.readX a) (s.readX b)))

/-- AND (R227). -/
def execAnd (a b d : Reg) (s : State) : Answer :=
  .next (s.result d (fnAnd (s.readX a) (s.readX b)))

/-- CAND (R228). -/
def execCand (a b d : Reg) (s : State) : Answer :=
  .next (s.result d (fnCand (s.readX a) (s.readX b)))

/-- OR (R229). -/
def execOr (a b d : Reg) (s : State) : Answer :=
  .next (s.result d (fnOr (s.readX a) (s.readX b)))

/-- COR (R230). -/
def execCor (a b d : Reg) (s : State) : Answer :=
  .next (s.result d (fnCor (s.readX a) (s.readX b)))

/-- XOR (R231). -/
def execXor (a b d : Reg) (s : State) : Answer :=
  .next (s.result d (fnXor (s.readX a) (s.readX b)))

/-- XNOR (R232). -/
def execXnor (a b d : Reg) (s : State) : Answer :=
  .next (s.result d (fnXnor (s.readX a) (s.readX b)))

/-- EQ (R233). -/
def execEq (a b d : Reg) (s : State) : Answer :=
  .next (s.result d (fnEq (s.readX a) (s.readX b)))

/-- NE (R234). -/
def execNe (a b d : Reg) (s : State) : Answer :=
  .next (s.result d (fnNe (s.readX a) (s.readX b)))

/-- LT (R235). -/
def execLt (a b d : Reg) (s : State) : Answer :=
  .next (s.result d (fnLt (s.readX a) (s.readX b)))

/-- GE (R236). -/
def execGe (a b d : Reg) (s : State) : Answer :=
  .next (s.result d (fnGe (s.readX a) (s.readX b)))

/-- LTU (R237). -/
def execLtu (a b d : Reg) (s : State) : Answer :=
  .next (s.result d (fnLtu (s.readX a) (s.readX b)))

/-- GEU (R238). -/
def execGeu (a b d : Reg) (s : State) : Answer :=
  .next (s.result d (fnGeu (s.readX a) (s.readX b)))

/-- MIN (R239). -/
def execMin (a b d : Reg) (s : State) : Answer :=
  .next (s.result d (fnMin (s.readX a) (s.readX b)))

/-- MAX (R240). -/
def execMax (a b d : Reg) (s : State) : Answer :=
  .next (s.result d (fnMax (s.readX a) (s.readX b)))

/-- SHL (R274). -/
def execShl (a b d : Reg) (s : State) : Answer :=
  .next (s.result d (fnShl (s.readX a) (shiftAmount (s.readX b))))

/-- SHR (R275). -/
def execShr (a b d : Reg) (s : State) : Answer :=
  .next (s.result d (fnShr (s.readX a) (shiftAmount (s.readX b))))

/-- SAR (R276). -/
def execSar (a b d : Reg) (s : State) : Answer :=
  .next (s.result d (fnSar (s.readX a) (shiftAmount (s.readX b))))

/-- ROR (R277). -/
def execRor (a b d : Reg) (s : State) : Answer :=
  .next (s.result d (fnRor (s.readX a) (shiftAmount (s.readX b))))

/-- MUL (R278). -/
def execMul (a b d : Reg) (s : State) : Answer :=
  .next (s.result d (fnMul (s.readX a) (s.readX b)))

/-- DIV (R279). -/
def execDiv (a b d : Reg) (s : State) : Answer :=
  .next (s.result d (fnDiv (s.readX a) (s.readX b)))

/-- MOD (R280). -/
def execMod (a b d : Reg) (s : State) : Answer :=
  .next (s.result d (fnMod (s.readX a) (s.readX b)))

/-- DIVU (R281). -/
def execDivu (a b d : Reg) (s : State) : Answer :=
  .next (s.result d (fnDivu (s.readX a) (s.readX b)))

/-- MODU (R282). -/
def execModu (a b d : Reg) (s : State) : Answer :=
  .next (s.result d (fnModu (s.readX a) (s.readX b)))

/-- ADDS (R283). -/
def execAdds (a b : Reg) (n : Nat) (d : Reg) (s : State) : Answer :=
  .next (s.result d (fnAdds (s.readX a) (s.readX b) n))

/-- NADDS (R284). -/
def execNadds (a b : Reg) (n : Nat) (d : Reg) (s : State) : Answer :=
  .next (s.result d (fnNadds (s.readX a) (s.readX b) n))

end Sys2Proof.Machine
end

