-- ==== Sys2Proof/Machine/LoadStore.lean ====
section
/-! DEFINITION. The memory instructions (41_load_store.md): alignment, then permission, then the access (R183). -/

namespace Sys2Proof.Machine

open Sys2Proof

/-- A load of `n` bytes, zero-extended, into register `d` (R185 to R188). -/
def State.loadUnsigned (s : State) (d : Reg) (addr : Word) (n : Nat) : Answer :=
  finish s ((s.memRead addr n).bind fun v => .done (s.result d (v.zeroExtend 64)))

/-- A load of `n` bytes, sign-extended, into register `d` (R189 to R192). -/
def State.loadSigned (s : State) (d : Reg) (addr : Word) (n : Nat) : Answer :=
  finish s ((s.memRead addr n).bind fun v => .done (s.result d (v.signExtend 64)))

/-- A store of the low `n` bytes of a register's value (R193 to R196). -/
def State.store (s : State) (addr : Word) (n : Nat) (v : Word) : Answer :=
  finish s ((s.memWrite addr n (v.setWidth (8 * n))).bind fun t => .done t.advance)

/-! ### LOAD, I format (R109) -/

/-- LBU (R185). -/
def execLbu (a b : Reg) (imm : BitVec 12) (s : State) : Answer :=
  s.loadUnsigned b (s.displaced a imm) 1

/-- LHU (R186). -/
def execLhu (a b : Reg) (imm : BitVec 12) (s : State) : Answer :=
  s.loadUnsigned b (s.displaced a imm) 2

/-- LWU (R187). -/
def execLwu (a b : Reg) (imm : BitVec 12) (s : State) : Answer :=
  s.loadUnsigned b (s.displaced a imm) 4

/-- LDU (R188). -/
def execLdu (a b : Reg) (imm : BitVec 12) (s : State) : Answer :=
  s.loadUnsigned b (s.displaced a imm) 8

/-- LB (R189). -/
def execLb (a b : Reg) (imm : BitVec 12) (s : State) : Answer :=
  s.loadSigned b (s.displaced a imm) 1

/-- LH (R190). -/
def execLh (a b : Reg) (imm : BitVec 12) (s : State) : Answer :=
  s.loadSigned b (s.displaced a imm) 2

/-- LW (R191). -/
def execLw (a b : Reg) (imm : BitVec 12) (s : State) : Answer :=
  s.loadSigned b (s.displaced a imm) 4

/-- LD (R192). -/
def execLd (a b : Reg) (imm : BitVec 12) (s : State) : Answer :=
  s.loadSigned b (s.displaced a imm) 8

/-! ### STORE, I format (R110) -/

/-- SB (R193). -/
def execSb (a b : Reg) (imm : BitVec 12) (s : State) : Answer :=
  s.store (s.displaced a imm) 1 (s.readX b)

/-- SH (R194). -/
def execSh (a b : Reg) (imm : BitVec 12) (s : State) : Answer :=
  s.store (s.displaced a imm) 2 (s.readX b)

/-- SW (R195). -/
def execSw (a b : Reg) (imm : BitVec 12) (s : State) : Answer :=
  s.store (s.displaced a imm) 4 (s.readX b)

/-- SD (R196). -/
def execSd (a b : Reg) (imm : BitVec 12) (s : State) : Answer :=
  s.store (s.displaced a imm) 8 (s.readX b)

/-! ### LOADX, R format (R109) -/

/-- LBU__indexed (R197). -/
def execLbuX (a b : Reg) (sc : Nat) (d : Reg) (s : State) : Answer :=
  s.loadUnsigned d (s.scaledIndex a b sc) 1

/-- LHU__indexed (R198). -/
def execLhuX (a b : Reg) (sc : Nat) (d : Reg) (s : State) : Answer :=
  s.loadUnsigned d (s.scaledIndex a b sc) 2

/-- LWU__indexed (R199). -/
def execLwuX (a b : Reg) (sc : Nat) (d : Reg) (s : State) : Answer :=
  s.loadUnsigned d (s.scaledIndex a b sc) 4

/-- LDU__indexed (R200). -/
def execLduX (a b : Reg) (sc : Nat) (d : Reg) (s : State) : Answer :=
  s.loadUnsigned d (s.scaledIndex a b sc) 8

/-- LB__indexed (R201). -/
def execLbX (a b : Reg) (sc : Nat) (d : Reg) (s : State) : Answer :=
  s.loadSigned d (s.scaledIndex a b sc) 1

/-- LH__indexed (R202). -/
def execLhX (a b : Reg) (sc : Nat) (d : Reg) (s : State) : Answer :=
  s.loadSigned d (s.scaledIndex a b sc) 2

/-- LW__indexed (R203). -/
def execLwX (a b : Reg) (sc : Nat) (d : Reg) (s : State) : Answer :=
  s.loadSigned d (s.scaledIndex a b sc) 4

/-- LD__indexed (R204). -/
def execLdX (a b : Reg) (sc : Nat) (d : Reg) (s : State) : Answer :=
  s.loadSigned d (s.scaledIndex a b sc) 8

/-! ### STORX, R format (R110) -/

/-- SB__indexed (R205). -/
def execSbX (a b : Reg) (sc : Nat) (c : Reg) (s : State) : Answer :=
  s.store (s.scaledIndex a b sc) 1 (s.readX c)

/-- SH__indexed (R206). -/
def execShX (a b : Reg) (sc : Nat) (c : Reg) (s : State) : Answer :=
  s.store (s.scaledIndex a b sc) 2 (s.readX c)

/-- SW__indexed (R207). -/
def execSwX (a b : Reg) (sc : Nat) (c : Reg) (s : State) : Answer :=
  s.store (s.scaledIndex a b sc) 4 (s.readX c)

/-- SD__indexed (R208). -/
def execSdX (a b : Reg) (sc : Nat) (c : Reg) (s : State) : Answer :=
  s.store (s.scaledIndex a b sc) 8 (s.readX c)

end Sys2Proof.Machine
end

