-- ==== Sys2Proof/Machine/Shift.lean ====
section
/-! DEFINITION. The SHIFT opcode: shifts, rotate, multiplication and division with an immediate (section 7 of 42_integer.md). -/

namespace Sys2Proof.Machine

open Sys2Proof

/-! ### SHIFT, I format (R106, R112) -/

/-- SHLR (R264). -/
def execShlr (a b : Reg) (l r : Nat) (s : State) : Answer :=
  .next (s.result b (fnShlr (s.readX a) l r))

/-- SHLR__f___1 (R265). -/
def execShlr1 (a b : Reg) (l r : Nat) (s : State) : Answer :=
  .next (s.result b (fnShlr (s.readX a) l r))

/-- SALR (R266). -/
def execSalr (a b : Reg) (l r : Nat) (s : State) : Answer :=
  .next (s.result b (fnSalr (s.readX a) l r))

/-- ROR__immediate (R267). -/
def execRorI (a b : Reg) (r : Nat) (s : State) : Answer :=
  .next (s.result b (fnRor (s.readX a) r))

/-- MUL__immediate (R268). -/
def execMulI (a b : Reg) (imm : BitVec 12) (s : State) : Answer :=
  .next (s.result b (fnMul (s.readX a) (imm12 imm)))

/-- DIV__immediate (R270). -/
def execDivI (a b : Reg) (imm : BitVec 12) (s : State) : Answer :=
  .next (s.result b (fnDiv (s.readX a) (imm12 imm)))

/-- MOD__immediate (R271). -/
def execModI (a b : Reg) (imm : BitVec 12) (s : State) : Answer :=
  .next (s.result b (fnMod (s.readX a) (imm12 imm)))

/-- DIVU__immediate (R272). -/
def execDivuI (a b : Reg) (imm : BitVec 12) (s : State) : Answer :=
  .next (s.result b (fnDivu (s.readX a) (imm12 imm)))

/-- MODU__immediate (R273). -/
def execModuI (a b : Reg) (imm : BitVec 12) (s : State) : Answer :=
  .next (s.result b (fnModu (s.readX a) (imm12 imm)))

end Sys2Proof.Machine
end

