-- ==== Sys2Proof/Machine/System.lean ====
section
/-! DEFINITION. The system instructions and the special moves (45_system.md). -/

namespace Sys2Proof.Machine

open Sys2Proof

/-- A privileged instruction: at EL0 it raises IllegalSysReg and does nothing else; at any other level it has its effect, the
state `t` (R433, R442, R443; D15, D33, log entries 15 and 33). -/
def State.privileged (s t : State) : State := if s.el = 0 then s.raise .illegalSysReg else t

/-! ### SYS, I format (R118) -/

/-- SCALL (R431). -/
def execScall (imm : BitVec 12) (s : State) : Answer :=
  .next (s.enter .systemCall (serviceCode imm) none)

/-- DCALL (R432). -/
def execDcall (imm : BitVec 12) (s : State) : Answer :=
  .next (s.enter .debuggerCall (serviceCode imm) none)

/-- SRET (R433). -/
def execSret (imm : BitVec 12) (s : State) : Answer :=
  .next (s.privileged (s.returnFrom imm))

/-! ### MOV, R format (R119) -/

/-- MOVRC (R436). -/
def execMovrc (a d : Reg) (s : State) : Answer :=
  .next ((s.writeR d (s.readC a)).advance)

/-- MOVEC (R437). -/
def execMovec (a d : Reg) (s : State) : Answer :=
  .next (s.privileged ((s.writeE d (s.readC a)).advance))

/-- MOVER (R438). -/
def execMover (a d : Reg) (s : State) : Answer :=
  .next (s.privileged ((s.writeE d (s.readR a)).advance))

/-- MOVRE (R439). -/
def execMovre (a d : Reg) (s : State) : Answer :=
  .next (s.privileged ((s.writeR d (s.readE a)).advance))

end Sys2Proof.Machine
end

