-- ==== Sys2Proof/Machine/ThreeOperand.lean ====
section
/-! DEFINITION. The ALU3 opcode: integer instructions with three sources (43_three_operand.md). -/

namespace Sys2Proof.Machine

open Sys2Proof

/-! ### ALU3, R format (R114) -/

/-- ADD__three-operand (R304). -/
def execAdd3 (a b c d : Reg) (s : State) : Answer :=
  .next (s.result d (fnAdd3 (s.readX a) (s.readX b) (s.readX c)))

/-- NADD__three-operand (R305). -/
def execNadd3 (a b c d : Reg) (s : State) : Answer :=
  .next (s.result d (fnNadd3 (s.readX a) (s.readX b) (s.readX c)))

/-- AND__three-operand (R306). -/
def execAnd3 (a b c d : Reg) (s : State) : Answer :=
  .next (s.result d (fnAnd3 (s.readX a) (s.readX b) (s.readX c)))

/-- CAND__three-operand (R307). -/
def execCand3 (a b c d : Reg) (s : State) : Answer :=
  .next (s.result d (fnCand3 (s.readX a) (s.readX b) (s.readX c)))

/-- OR__three-operand (R308). -/
def execOr3 (a b c d : Reg) (s : State) : Answer :=
  .next (s.result d (fnOr3 (s.readX a) (s.readX b) (s.readX c)))

/-- COR__three-operand (R309). -/
def execCor3 (a b c d : Reg) (s : State) : Answer :=
  .next (s.result d (fnCor3 (s.readX a) (s.readX b) (s.readX c)))

/-- XOR__three-operand (R310). -/
def execXor3 (a b c d : Reg) (s : State) : Answer :=
  .next (s.result d (fnXor3 (s.readX a) (s.readX b) (s.readX c)))

/-- XNOR__three-operand (R311). -/
def execXnor3 (a b c d : Reg) (s : State) : Answer :=
  .next (s.result d (fnXnor3 (s.readX a) (s.readX b) (s.readX c)))

/-- ANDEQ (R312). -/
def execAndeq (a b c d : Reg) (s : State) : Answer :=
  .next (s.result d (andCompare (s.readX a) (s.readX b == s.readX c)))

/-- ANDNE (R313). -/
def execAndne (a b c d : Reg) (s : State) : Answer :=
  .next (s.result d (andCompare (s.readX a) (s.readX b != s.readX c)))

/-- ANDLT (R314). -/
def execAndlt (a b c d : Reg) (s : State) : Answer :=
  .next (s.result d (andCompare (s.readX a) (ltSigned (s.readX b) (s.readX c))))

/-- ANDGE (R315). -/
def execAndge (a b c d : Reg) (s : State) : Answer :=
  .next (s.result d (andCompare (s.readX a) (geSigned (s.readX b) (s.readX c))))

/-- ANDLTU (R316). -/
def execAndltu (a b c d : Reg) (s : State) : Answer :=
  .next (s.result d (andCompare (s.readX a) (ltUnsigned (s.readX b) (s.readX c))))

/-- ANDGEU (R317). -/
def execAndgeu (a b c d : Reg) (s : State) : Answer :=
  .next (s.result d (andCompare (s.readX a) (geUnsigned (s.readX b) (s.readX c))))

/-- MINU__three-operand (R324). -/
def execMinu3 (a b c d : Reg) (s : State) : Answer :=
  .next (s.result d (fnMinu3 (s.readX a) (s.readX b) (s.readX c)))

/-- MAXU__three-operand (R325). -/
def execMaxu3 (a b c d : Reg) (s : State) : Answer :=
  .next (s.result d (fnMaxu3 (s.readX a) (s.readX b) (s.readX c)))

/-- OREQ (R318). -/
def execOreq (a b c d : Reg) (s : State) : Answer :=
  .next (s.result d (orCompare (s.readX a) (s.readX b == s.readX c)))

/-- ORNE (R319). -/
def execOrne (a b c d : Reg) (s : State) : Answer :=
  .next (s.result d (orCompare (s.readX a) (s.readX b != s.readX c)))

/-- ORLT (R320). -/
def execOrlt (a b c d : Reg) (s : State) : Answer :=
  .next (s.result d (orCompare (s.readX a) (ltSigned (s.readX b) (s.readX c))))

/-- ORGE (R321). -/
def execOrge (a b c d : Reg) (s : State) : Answer :=
  .next (s.result d (orCompare (s.readX a) (geSigned (s.readX b) (s.readX c))))

/-- ORLTU (R322). -/
def execOrltu (a b c d : Reg) (s : State) : Answer :=
  .next (s.result d (orCompare (s.readX a) (ltUnsigned (s.readX b) (s.readX c))))

/-- ORGEU (R323). -/
def execOrgeu (a b c d : Reg) (s : State) : Answer :=
  .next (s.result d (orCompare (s.readX a) (geUnsigned (s.readX b) (s.readX c))))

/-- MIN__three-operand (R326). -/
def execMin3 (a b c d : Reg) (s : State) : Answer :=
  .next (s.result d (fnMin3 (s.readX a) (s.readX b) (s.readX c)))

/-- MAX__three-operand (R327). -/
def execMax3 (a b c d : Reg) (s : State) : Answer :=
  .next (s.result d (fnMax3 (s.readX a) (s.readX b) (s.readX c)))

/-- SEL (R330). -/
def execSel (a b c d : Reg) (s : State) : Answer :=
  .next (s.result d (fnSel (s.readX a) (s.readX b) (s.readX c)))

/-- SELN (R331). -/
def execSeln (a b c d : Reg) (s : State) : Answer :=
  .next (s.result d (fnSeln (s.readX a) (s.readX b) (s.readX c)))

/-- SELP (R332). -/
def execSelp (a b c d : Reg) (s : State) : Answer :=
  .next (s.result d (fnSelp (s.readX a) (s.readX b) (s.readX c)))

/-- MADD (R334). -/
def execMadd (a b c d : Reg) (s : State) : Answer :=
  .next (s.result d (fnMadd (s.readX a) (s.readX b) (s.readX c)))

/-- NMADD (R335). -/
def execNmadd (a b c d : Reg) (s : State) : Answer :=
  .next (s.result d (fnNmadd (s.readX a) (s.readX b) (s.readX c)))

end Sys2Proof.Machine
end

