-- ==== Sys2Proof/Machine/Dispatch.lean ====
section
/-! DEFINITION. The dispatch: one arm per constructor of `Instr`, one meaning per arm. -/

namespace Sys2Proof.Machine

open Sys2Proof

def exec (i : Instr) (s : State) : Host.Outcome State Fault Refusal :=
  match i with
  -- NOP (R97, R258)
  | .nop imm => Sys2Proof.Machine.execNop imm s
  -- Jumps, J format (R101)
  | .j off => Sys2Proof.Machine.execJ off s
  | .jal off => Sys2Proof.Machine.execJal off s
  -- Branches on two registers, B format (R102)
  | .beq a b off => Sys2Proof.Machine.execBeq a b off s
  | .bne a b off => Sys2Proof.Machine.execBne a b off s
  | .blt a b off => Sys2Proof.Machine.execBlt a b off s
  | .bge a b off => Sys2Proof.Machine.execBge a b off s
  | .bltu a b off => Sys2Proof.Machine.execBltu a b off s
  | .bgeu a b off => Sys2Proof.Machine.execBgeu a b off s
  -- Branches on a register and an immediate, B format (R102, R104)
  | .beqi a imm off => Sys2Proof.Machine.execBeqi a imm off s
  | .bnei a imm off => Sys2Proof.Machine.execBnei a imm off s
  | .blti a imm off => Sys2Proof.Machine.execBlti a imm off s
  | .bgei a imm off => Sys2Proof.Machine.execBgei a imm off s
  | .bltui a imm off => Sys2Proof.Machine.execBltui a imm off s
  | .bgeui a imm off => Sys2Proof.Machine.execBgeui a imm off s
  -- Loops, B format
  | .loop a b off => Sys2Proof.Machine.execLoop a b off s
  | .loopd a b off => Sys2Proof.Machine.execLoopd a b off s
  -- Jumps through a register, B format (R103)
  | .jr a off => Sys2Proof.Machine.execJr a off s
  | .jalr a b off => Sys2Proof.Machine.execJalr a b off s
  -- LOAD, I format (R109)
  | .lbu a b imm => Sys2Proof.Machine.execLbu a b imm s
  | .lhu a b imm => Sys2Proof.Machine.execLhu a b imm s
  | .lwu a b imm => Sys2Proof.Machine.execLwu a b imm s
  | .ldu a b imm => Sys2Proof.Machine.execLdu a b imm s
  | .lb a b imm => Sys2Proof.Machine.execLb a b imm s
  | .lh a b imm => Sys2Proof.Machine.execLh a b imm s
  | .lw a b imm => Sys2Proof.Machine.execLw a b imm s
  | .ld a b imm => Sys2Proof.Machine.execLd a b imm s
  -- STORE, I format (R110)
  | .sb a b imm => Sys2Proof.Machine.execSb a b imm s
  | .sh a b imm => Sys2Proof.Machine.execSh a b imm s
  | .sw a b imm => Sys2Proof.Machine.execSw a b imm s
  | .sd a b imm => Sys2Proof.Machine.execSd a b imm s
  -- LOADX, R format (R109)
  | .lbuX a b sc d => Sys2Proof.Machine.execLbuX a b sc d s
  | .lhuX a b sc d => Sys2Proof.Machine.execLhuX a b sc d s
  | .lwuX a b sc d => Sys2Proof.Machine.execLwuX a b sc d s
  | .lduX a b sc d => Sys2Proof.Machine.execLduX a b sc d s
  | .lbX a b sc d => Sys2Proof.Machine.execLbX a b sc d s
  | .lhX a b sc d => Sys2Proof.Machine.execLhX a b sc d s
  | .lwX a b sc d => Sys2Proof.Machine.execLwX a b sc d s
  | .ldX a b sc d => Sys2Proof.Machine.execLdX a b sc d s
  -- STORX, R format (R110)
  | .sbX a b sc c => Sys2Proof.Machine.execSbX a b sc c s
  | .shX a b sc c => Sys2Proof.Machine.execShX a b sc c s
  | .swX a b sc c => Sys2Proof.Machine.execSwX a b sc c s
  | .sdX a b sc c => Sys2Proof.Machine.execSdX a b sc c s
  -- ALUI, I format (R111)
  | .addI a b imm => Sys2Proof.Machine.execAddI a b imm s
  | .naddI a b imm => Sys2Proof.Machine.execNaddI a b imm s
  | .andI a b imm => Sys2Proof.Machine.execAndI a b imm s
  | .candI a b imm => Sys2Proof.Machine.execCandI a b imm s
  | .orI a b imm => Sys2Proof.Machine.execOrI a b imm s
  | .corI a b imm => Sys2Proof.Machine.execCorI a b imm s
  | .xorI a b imm => Sys2Proof.Machine.execXorI a b imm s
  | .setI a b imm => Sys2Proof.Machine.execSetI a b imm s
  | .eqI a b imm => Sys2Proof.Machine.execEqI a b imm s
  | .neI a b imm => Sys2Proof.Machine.execNeI a b imm s
  | .ltI a b imm => Sys2Proof.Machine.execLtI a b imm s
  | .geI a b imm => Sys2Proof.Machine.execGeI a b imm s
  | .ltuI a b imm => Sys2Proof.Machine.execLtuI a b imm s
  | .geuI a b imm => Sys2Proof.Machine.execGeuI a b imm s
  | .minI a b imm => Sys2Proof.Machine.execMinI a b imm s
  | .maxI a b imm => Sys2Proof.Machine.execMaxI a b imm s
  -- ALUI1: I format and one NOP (R107, R111)
  | .addI1 a b imm => Sys2Proof.Machine.execAddI1 a b imm s
  | .naddI1 a b imm => Sys2Proof.Machine.execNaddI1 a b imm s
  | .andI1 a b imm => Sys2Proof.Machine.execAndI1 a b imm s
  | .candI1 a b imm => Sys2Proof.Machine.execCandI1 a b imm s
  | .orI1 a b imm => Sys2Proof.Machine.execOrI1 a b imm s
  | .corI1 a b imm => Sys2Proof.Machine.execCorI1 a b imm s
  | .xorI1 a b imm => Sys2Proof.Machine.execXorI1 a b imm s
  | .setI1 a b imm => Sys2Proof.Machine.execSetI1 a b imm s
  | .eqI1 a b imm => Sys2Proof.Machine.execEqI1 a b imm s
  | .neI1 a b imm => Sys2Proof.Machine.execNeI1 a b imm s
  | .ltI1 a b imm => Sys2Proof.Machine.execLtI1 a b imm s
  | .geI1 a b imm => Sys2Proof.Machine.execGeI1 a b imm s
  | .ltuI1 a b imm => Sys2Proof.Machine.execLtuI1 a b imm s
  | .geuI1 a b imm => Sys2Proof.Machine.execGeuI1 a b imm s
  | .minI1 a b imm => Sys2Proof.Machine.execMinI1 a b imm s
  | .maxI1 a b imm => Sys2Proof.Machine.execMaxI1 a b imm s
  -- ALUI2: I format and one NOP (R107, R111)
  | .addI2 a b imm => Sys2Proof.Machine.execAddI2 a b imm s
  | .naddI2 a b imm => Sys2Proof.Machine.execNaddI2 a b imm s
  | .andI2 a b imm => Sys2Proof.Machine.execAndI2 a b imm s
  | .candI2 a b imm => Sys2Proof.Machine.execCandI2 a b imm s
  | .orI2 a b imm => Sys2Proof.Machine.execOrI2 a b imm s
  | .corI2 a b imm => Sys2Proof.Machine.execCorI2 a b imm s
  | .xorI2 a b imm => Sys2Proof.Machine.execXorI2 a b imm s
  | .setI2 a b imm => Sys2Proof.Machine.execSetI2 a b imm s
  | .eqI2 a b imm => Sys2Proof.Machine.execEqI2 a b imm s
  | .neI2 a b imm => Sys2Proof.Machine.execNeI2 a b imm s
  | .ltI2 a b imm => Sys2Proof.Machine.execLtI2 a b imm s
  | .geI2 a b imm => Sys2Proof.Machine.execGeI2 a b imm s
  | .ltuI2 a b imm => Sys2Proof.Machine.execLtuI2 a b imm s
  | .geuI2 a b imm => Sys2Proof.Machine.execGeuI2 a b imm s
  | .minI2 a b imm => Sys2Proof.Machine.execMinI2 a b imm s
  | .maxI2 a b imm => Sys2Proof.Machine.execMaxI2 a b imm s
  -- ALUI3: I format and two NOPs (R107, R111)
  | .addI3 a b imm => Sys2Proof.Machine.execAddI3 a b imm s
  | .naddI3 a b imm => Sys2Proof.Machine.execNaddI3 a b imm s
  | .andI3 a b imm => Sys2Proof.Machine.execAndI3 a b imm s
  | .candI3 a b imm => Sys2Proof.Machine.execCandI3 a b imm s
  | .orI3 a b imm => Sys2Proof.Machine.execOrI3 a b imm s
  | .corI3 a b imm => Sys2Proof.Machine.execCorI3 a b imm s
  | .xorI3 a b imm => Sys2Proof.Machine.execXorI3 a b imm s
  | .setI3 a b imm => Sys2Proof.Machine.execSetI3 a b imm s
  | .eqI3 a b imm => Sys2Proof.Machine.execEqI3 a b imm s
  | .neI3 a b imm => Sys2Proof.Machine.execNeI3 a b imm s
  | .ltI3 a b imm => Sys2Proof.Machine.execLtI3 a b imm s
  | .geI3 a b imm => Sys2Proof.Machine.execGeI3 a b imm s
  | .ltuI3 a b imm => Sys2Proof.Machine.execLtuI3 a b imm s
  | .geuI3 a b imm => Sys2Proof.Machine.execGeuI3 a b imm s
  | .minI3 a b imm => Sys2Proof.Machine.execMinI3 a b imm s
  | .maxI3 a b imm => Sys2Proof.Machine.execMaxI3 a b imm s
  -- RET, I format (R111, R262)
  | .retAdd a b imm => Sys2Proof.Machine.execRetAdd a b imm s
  | .retNadd a b imm => Sys2Proof.Machine.execRetNadd a b imm s
  | .retAnd a b imm => Sys2Proof.Machine.execRetAnd a b imm s
  | .retCand a b imm => Sys2Proof.Machine.execRetCand a b imm s
  | .retOr a b imm => Sys2Proof.Machine.execRetOr a b imm s
  | .retCor a b imm => Sys2Proof.Machine.execRetCor a b imm s
  | .retXor a b imm => Sys2Proof.Machine.execRetXor a b imm s
  | .retSet a b imm => Sys2Proof.Machine.execRetSet a b imm s
  | .retEq a b imm => Sys2Proof.Machine.execRetEq a b imm s
  | .retNe a b imm => Sys2Proof.Machine.execRetNe a b imm s
  | .retLt a b imm => Sys2Proof.Machine.execRetLt a b imm s
  | .retGe a b imm => Sys2Proof.Machine.execRetGe a b imm s
  | .retLtu a b imm => Sys2Proof.Machine.execRetLtu a b imm s
  | .retGeu a b imm => Sys2Proof.Machine.execRetGeu a b imm s
  | .retMin a b imm => Sys2Proof.Machine.execRetMin a b imm s
  | .retMax a b imm => Sys2Proof.Machine.execRetMax a b imm s
  -- SHIFT, I format (R106, R112)
  | .shlr a b l r => Sys2Proof.Machine.execShlr a b l r s
  | .shlr1 a b l r => Sys2Proof.Machine.execShlr1 a b l r s
  | .salr a b l r => Sys2Proof.Machine.execSalr a b l r s
  | .rorI a b r => Sys2Proof.Machine.execRorI a b r s
  | .mulI a b imm => Sys2Proof.Machine.execMulI a b imm s
  | .divI a b imm => Sys2Proof.Machine.execDivI a b imm s
  | .modI a b imm => Sys2Proof.Machine.execModI a b imm s
  | .divuI a b imm => Sys2Proof.Machine.execDivuI a b imm s
  | .moduI a b imm => Sys2Proof.Machine.execModuI a b imm s
  -- ALU, R format (R113)
  | .add a b d => Sys2Proof.Machine.execAdd a b d s
  | .nadd a b d => Sys2Proof.Machine.execNadd a b d s
  | .and a b d => Sys2Proof.Machine.execAnd a b d s
  | .cand a b d => Sys2Proof.Machine.execCand a b d s
  | .or a b d => Sys2Proof.Machine.execOr a b d s
  | .cor a b d => Sys2Proof.Machine.execCor a b d s
  | .xor a b d => Sys2Proof.Machine.execXor a b d s
  | .xnor a b d => Sys2Proof.Machine.execXnor a b d s
  | .eq a b d => Sys2Proof.Machine.execEq a b d s
  | .ne a b d => Sys2Proof.Machine.execNe a b d s
  | .lt a b d => Sys2Proof.Machine.execLt a b d s
  | .ge a b d => Sys2Proof.Machine.execGe a b d s
  | .ltu a b d => Sys2Proof.Machine.execLtu a b d s
  | .geu a b d => Sys2Proof.Machine.execGeu a b d s
  | .min a b d => Sys2Proof.Machine.execMin a b d s
  | .max a b d => Sys2Proof.Machine.execMax a b d s
  | .shl a b d => Sys2Proof.Machine.execShl a b d s
  | .shr a b d => Sys2Proof.Machine.execShr a b d s
  | .sar a b d => Sys2Proof.Machine.execSar a b d s
  | .ror a b d => Sys2Proof.Machine.execRor a b d s
  | .mul a b d => Sys2Proof.Machine.execMul a b d s
  | .div a b d => Sys2Proof.Machine.execDiv a b d s
  | .mod a b d => Sys2Proof.Machine.execMod a b d s
  | .divu a b d => Sys2Proof.Machine.execDivu a b d s
  | .modu a b d => Sys2Proof.Machine.execModu a b d s
  | .adds a b n d => Sys2Proof.Machine.execAdds a b n d s
  | .nadds a b n d => Sys2Proof.Machine.execNadds a b n d s
  -- ALU3, R format (R114)
  | .add3 a b c d => Sys2Proof.Machine.execAdd3 a b c d s
  | .nadd3 a b c d => Sys2Proof.Machine.execNadd3 a b c d s
  | .and3 a b c d => Sys2Proof.Machine.execAnd3 a b c d s
  | .cand3 a b c d => Sys2Proof.Machine.execCand3 a b c d s
  | .or3 a b c d => Sys2Proof.Machine.execOr3 a b c d s
  | .cor3 a b c d => Sys2Proof.Machine.execCor3 a b c d s
  | .xor3 a b c d => Sys2Proof.Machine.execXor3 a b c d s
  | .xnor3 a b c d => Sys2Proof.Machine.execXnor3 a b c d s
  | .andeq a b c d => Sys2Proof.Machine.execAndeq a b c d s
  | .andne a b c d => Sys2Proof.Machine.execAndne a b c d s
  | .andlt a b c d => Sys2Proof.Machine.execAndlt a b c d s
  | .andge a b c d => Sys2Proof.Machine.execAndge a b c d s
  | .andltu a b c d => Sys2Proof.Machine.execAndltu a b c d s
  | .andgeu a b c d => Sys2Proof.Machine.execAndgeu a b c d s
  | .minu3 a b c d => Sys2Proof.Machine.execMinu3 a b c d s
  | .maxu3 a b c d => Sys2Proof.Machine.execMaxu3 a b c d s
  | .oreq a b c d => Sys2Proof.Machine.execOreq a b c d s
  | .orne a b c d => Sys2Proof.Machine.execOrne a b c d s
  | .orlt a b c d => Sys2Proof.Machine.execOrlt a b c d s
  | .orge a b c d => Sys2Proof.Machine.execOrge a b c d s
  | .orltu a b c d => Sys2Proof.Machine.execOrltu a b c d s
  | .orgeu a b c d => Sys2Proof.Machine.execOrgeu a b c d s
  | .min3 a b c d => Sys2Proof.Machine.execMin3 a b c d s
  | .max3 a b c d => Sys2Proof.Machine.execMax3 a b c d s
  | .sel a b c d => Sys2Proof.Machine.execSel a b c d s
  | .seln a b c d => Sys2Proof.Machine.execSeln a b c d s
  | .selp a b c d => Sys2Proof.Machine.execSelp a b c d s
  | .madd a b c d => Sys2Proof.Machine.execMadd a b c d s
  | .nmadd a b c d => Sys2Proof.Machine.execNmadd a b c d s
  -- FPU1, floating-point R format (R115)
  | .absS a d => Sys2Proof.Machine.execAbsS a d s
  | .absD a d => Sys2Proof.Machine.execAbsD a d s
  | .negS a d => Sys2Proof.Machine.execNegS a d s
  | .negD a d => Sys2Proof.Machine.execNegD a d s
  | .sqrtS a d => Sys2Proof.Machine.execSqrtS a d s
  | .sqrtD a d => Sys2Proof.Machine.execSqrtD a d s
  | .cvtSD a d => Sys2Proof.Machine.execCvtSD a d s
  | .cvtDS a d => Sys2Proof.Machine.execCvtDS a d s
  | .cvtSI a d => Sys2Proof.Machine.execCvtSI a d s
  | .cvtDI a d => Sys2Proof.Machine.execCvtDI a d s
  | .cvtIS a d => Sys2Proof.Machine.execCvtIS a d s
  | .cvtID a d => Sys2Proof.Machine.execCvtID a d s
  | .rintS a d => Sys2Proof.Machine.execRintS a d s
  | .rintD a d => Sys2Proof.Machine.execRintD a d s
  -- FPU2, floating-point R format (R116)
  | .eqS a b d => Sys2Proof.Machine.execEqS a b d s
  | .eqD a b d => Sys2Proof.Machine.execEqD a b d s
  | .neS a b d => Sys2Proof.Machine.execNeS a b d s
  | .neD a b d => Sys2Proof.Machine.execNeD a b d s
  | .ltS a b d => Sys2Proof.Machine.execLtS a b d s
  | .ltD a b d => Sys2Proof.Machine.execLtD a b d s
  | .geS a b d => Sys2Proof.Machine.execGeS a b d s
  | .geD a b d => Sys2Proof.Machine.execGeD a b d s
  | .infS a b d => Sys2Proof.Machine.execInfS a b d s
  | .infD a b d => Sys2Proof.Machine.execInfD a b d s
  | .nanS a b d => Sys2Proof.Machine.execNanS a b d s
  | .nanD a b d => Sys2Proof.Machine.execNanD a b d s
  | .addS a b d => Sys2Proof.Machine.execAddS a b d s
  | .addD a b d => Sys2Proof.Machine.execAddD a b d s
  | .naddS a b d => Sys2Proof.Machine.execNaddS a b d s
  | .naddD a b d => Sys2Proof.Machine.execNaddD a b d s
  | .mulS a b d => Sys2Proof.Machine.execMulS a b d s
  | .mulD a b d => Sys2Proof.Machine.execMulD a b d s
  | .divS a b d => Sys2Proof.Machine.execDivS a b d s
  | .divD a b d => Sys2Proof.Machine.execDivD a b d s
  | .minS a b d => Sys2Proof.Machine.execMinS a b d s
  | .minD a b d => Sys2Proof.Machine.execMinD a b d s
  | .maxS a b d => Sys2Proof.Machine.execMaxS a b d s
  | .maxD a b d => Sys2Proof.Machine.execMaxD a b d s
  -- FPU3, floating-point R format (R117)
  | .andeqS a b c d => Sys2Proof.Machine.execAndeqS a b c d s
  | .andeqD a b c d => Sys2Proof.Machine.execAndeqD a b c d s
  | .andneS a b c d => Sys2Proof.Machine.execAndneS a b c d s
  | .andneD a b c d => Sys2Proof.Machine.execAndneD a b c d s
  | .andltS a b c d => Sys2Proof.Machine.execAndltS a b c d s
  | .andltD a b c d => Sys2Proof.Machine.execAndltD a b c d s
  | .andgeS a b c d => Sys2Proof.Machine.execAndgeS a b c d s
  | .andgeD a b c d => Sys2Proof.Machine.execAndgeD a b c d s
  | .oreqS a b c d => Sys2Proof.Machine.execOreqS a b c d s
  | .oreqD a b c d => Sys2Proof.Machine.execOreqD a b c d s
  | .orneS a b c d => Sys2Proof.Machine.execOrneS a b c d s
  | .orneD a b c d => Sys2Proof.Machine.execOrneD a b c d s
  | .orltS a b c d => Sys2Proof.Machine.execOrltS a b c d s
  | .orltD a b c d => Sys2Proof.Machine.execOrltD a b c d s
  | .orgeS a b c d => Sys2Proof.Machine.execOrgeS a b c d s
  | .orgeD a b c d => Sys2Proof.Machine.execOrgeD a b c d s
  | .add3S a b c d => Sys2Proof.Machine.execAdd3S a b c d s
  | .add3D a b c d => Sys2Proof.Machine.execAdd3D a b c d s
  | .nadd3S a b c d => Sys2Proof.Machine.execNadd3S a b c d s
  | .nadd3D a b c d => Sys2Proof.Machine.execNadd3D a b c d s
  | .maddS a b c d => Sys2Proof.Machine.execMaddS a b c d s
  | .maddD a b c d => Sys2Proof.Machine.execMaddD a b c d s
  | .nmaddS a b c d => Sys2Proof.Machine.execNmaddS a b c d s
  | .nmaddD a b c d => Sys2Proof.Machine.execNmaddD a b c d s
  | .min3S a b c d => Sys2Proof.Machine.execMin3S a b c d s
  | .min3D a b c d => Sys2Proof.Machine.execMin3D a b c d s
  | .max3S a b c d => Sys2Proof.Machine.execMax3S a b c d s
  | .max3D a b c d => Sys2Proof.Machine.execMax3D a b c d s
  -- SYS, I format (R118)
  | .scall imm => Sys2Proof.Machine.execScall imm s
  | .dcall imm => Sys2Proof.Machine.execDcall imm s
  | .sret imm => Sys2Proof.Machine.execSret imm s
  -- MOV, R format (R119)
  | .movrc a d => Sys2Proof.Machine.execMovrc a d s
  | .movec a d => Sys2Proof.Machine.execMovec a d s
  | .mover a d => Sys2Proof.Machine.execMover a d s
  | .movre a d => Sys2Proof.Machine.execMovre a d s

end Sys2Proof.Machine
end

