-- ==== Sys2Proof/Machine/Interrupts.lean ====
section
/-! DEFINITION. Asynchronous interrupts: the parameter record `irq` of R463, with its defaults and as a platform supplies it, and
taking an interrupt (R466). -/

namespace Sys2Proof.Machine

open Sys2Proof Config

/-- The hardware gives INTS its value for the step that begins; with no value left to give, INTS stays (R36, R463; log entry 18). -/
def State.sampleInts (s : State) : State :=
  match s.irqInputs with
  | [] => s
  | v :: rest => { s with e := s.e.set intsNo v, irqInputs := rest }

/-- What happens as a step begins, before an interrupt is looked for: the counters advance and INTS is sampled. -/
def State.begun (s : State) : State := s.tick.sampleInts

/-- The lowest bit number of a word that is not 0. -/
def lowestBit (w : Word) : Option Nat := (List.range 64).find? fun i => w.getLsbD i

/-- The defaults of `irq.enabled`, `irq.ecode` and `irq.choose`: bit i of INTM enables source i, ECODE becomes i, and the lowest
bit number is taken (R463, D18; log entry 18). -/
def standardIrq : IrqRules where
  enabled intm := intm
  ecode source := BitVec.ofNat 64 source
  choose active := (lowestBit active).getD 0

/-- The rules that a value of the parameter stands for (R463). -/
def irqRules : IrqInstance → IrqRules
  | .standard => standardIrq
  | .supplied n => suppliedIrq n

/-- The machine's `irq.enabled`, `irq.ecode` and `irq.choose` (R463). -/
def State.irq (s : State) : IrqRules := irqRules s.irqInstance

/-- The sources that are pending and enabled: their INTS bit is 1 and `irq.enabled` holds of them (R466). -/
def State.activeSources (s : State) : Word := s.irqSources &&& (s.e[intsNo] &&& s.irq.enabled s.e[intmNo])

/-- The source that is taken of the pending enabled ones: the one that `irq.choose` names; a supplied `irq.choose` that names no
such source counts as the default (R463; log entry 18). -/
def State.takenOf (s : State) (active : Word) : Option Nat :=
  if active.getLsbD (s.irq.choose active) then some (s.irq.choose active) else lowestBit active

/-- The source whose interrupt is taken at this instruction boundary, if there is one (R466). -/
def State.chosenSource (s : State) : Option Nat :=
  if s.irqSources = 0 then none
  else if s.el = 0 || s.irqAtEl1 then s.takenOf s.activeSources
  else none

/-- `Enter(Asynchronous, irq.ecode(i))` with no bad address (R466). -/
def State.takeInterrupt (s : State) (source : Nat) : State := s.enter .asynchronous (s.irq.ecode source) none

end Sys2Proof.Machine
end

