-- ==== Sys2Proof/Machine/Cycle.lean ====
section
/-! DEFINITION. What one step does, in the order of R475 and R476: the interrupt check, the fetch, the decoding, the execution. -/

namespace Sys2Proof.Machine

open Sys2Proof

/-- A fetched word executes: the instruction it stands for, or InvalidInstruction where it stands for none (R120, R121, R452). -/
noncomputable def State.executeWord (s : State) (w : BitVec 32) : Answer :=
  match decode s.nopCode w with
  | .ok i => exec i s
  | .error _ => .next (s.raise .invalidInstruction)

/-- The instruction at the pc is fetched and executes (R68, R476). -/
noncomputable def State.fetchAndExecute (s : State) : Answer :=
  match s.fetchWord s.pcByte with
  | .done w => s.executeWord w
  | .trap c => .next (s.raise c)
  | .stuck f => .fault f

/-- One cycle of a machine at a level that exists: the counters advance and INTS is sampled, then an interrupt is taken or the
instruction at the pc executes (R461, R466, R476). -/
noncomputable def State.cycle (s : State) : Answer :=
  match s.begun.chosenSource with
  | some source => .next (s.begun.takeInterrupt source)
  | none => s.begun.fetchAndExecute

/-- The state with an instruction's bytes, as the opcode table numbers its bits, stored from the pc on (R63). -/
def State.withInstruction (s : State) (nbits w : Nat) : State :=
  { s with mem := s.mem.writeBytes s.addrBits s.pcByte (tableBytes nbits w) }

end Sys2Proof.Machine
end

