-- ==== Sys2Proof/Machine/Step.lean ====
section
/-! DEFINITION. The step of the machine, and how an instruction is placed where the next step fetches it. -/

namespace Sys2Proof.Machine

open Sys2Proof

/-- ONE STEP (R476). A state whose level does not exist is refused (R26, U9). -/
noncomputable def step (s : State) : Answer :=
  if reservedLevel s.el then .refused (.reservedLevel s.el) else s.cycle

/-- `s` with an instruction stored where `step` fetches its next one: at the pc (log entry 42). -/
def State.withFetchWord (s : State) (nbits w : Nat) : State := s.withInstruction nbits w

end Sys2Proof.Machine
end

