-- ==== Sys2Proof/Safety.lean ====
section
/-! DEFINITION. The terms in which claims about the machine are stated: what an instruction changed and what it left as it was,
where it went on, how an exception was taken, and the invariant that every step keeps. Registers and memory are compared by
reading them. -/

namespace Sys2Proof.Machine

open Sys2Proof

/-! ### What stayed the same -/

/-- Every general register reads as before. -/
def SameR (s t : State) : Prop := ∀ i, t.readR i = s.readR i
/-- Every exception register reads as before. -/
def SameE (s t : State) : Prop := ∀ i, t.readE i = s.readE i
/-- Every byte of memory reads as before. -/
def SameMemory (s t : State) : Prop := ∀ a, t.mem.read a = s.mem.read a
/-- The parameters of R4 are as before. -/
def SameParameters (s t : State) : Prop :=
  t.addrBits = s.addrBits ∧ t.nopCode = s.nopCode ∧ t.counterImpl = s.counterImpl ∧ t.fpInstance = s.fpInstance ∧ t.denied = s.denied ∧
    t.irqSources = s.irqSources ∧ t.irqInstance = s.irqInstance ∧ t.irqAtEl1 = s.irqAtEl1
/-- The counters, the parameters and the inputs still to come are as before. -/
def SameRest (s t : State) : Prop :=
  t.c = s.c ∧ t.draws = s.draws ∧ SameParameters s t ∧ t.irqInputs = s.irqInputs

/-! ### What was written -/

/-- Register R[d] holds `v`, and every other general and every exception register reads as before. -/
def WroteR (s t : State) (d : Reg) (v : Word) : Prop := (∀ i, t.readR i = if i = d then v else s.readR i) ∧ SameE s t

/-- `Ewrite(d, v)` was done and nothing else: a reserved register keeps reading 0, INTS holds what `irq.ints_write` makes of
`v`, any other register holds `v`; every other register reads as before (R30, R36). -/
def WroteE (s t : State) (d : Reg) (v : Word) : Prop :=
  SameR s t ∧
    ∀ i, t.readE i =
      if i = d then
        if 8 ≤ d.val ∧ d.val ≤ 15 ∨ 21 ≤ d.val ∧ d.val ≤ 29 then 0
        else if d.val = 19 then Config.intsWrite (s.readE d) v else v
      else s.readE i

/-- `x[d] <- v` was done: R[d] at EL0, E[d] at any other level (R27). -/
def WroteX (s t : State) (d : Reg) (v : Word) : Prop := if s.el = 0 then WroteR s t d v else WroteE s t d v

/-- The `n` bytes of `w` stand in memory from `addr` on, least significant byte first (R62). -/
def HoldsAt (s : State) (addr : Word) (n : Nat) (w : BitVec (8 * n)) : Prop :=
  ∀ k, k < n → s.mem.read (s.byteNo (addr + BitVec.ofNat 64 k)) = some (w.extractLsb' (8 * k) 8)

/-- Some byte of the `n` from `addr` on has no value. -/
def LacksByte (s : State) (addr : Word) (n : Nat) : Prop :=
  ∃ k, k < n ∧ s.mem.read (s.byteNo (addr + BitVec.ofNat 64 k)) = none

/-- The `n` bytes of `w` were stored at `addr`; every other byte reads as before. -/
def WroteMemory (s t : State) (addr : Word) (n : Nat) (w : BitVec (8 * n)) : Prop :=
  HoldsAt t addr n w ∧
    ∀ a, (∀ k, k < n → a ≠ s.byteNo (addr + BitVec.ofNat 64 k)) → t.mem.read a = s.mem.read a

/-! ### Where execution goes on -/

/-- The next instruction is the one at byte address `target`, at the same execution level (R23, R26). -/
def PcAt (s t : State) (target : Word) : Prop := t.pcByte = target ∧ t.el = s.el
/-- Execution goes on with the instruction that follows. -/
def AtNext (s t : State) : Prop := PcAt s t (s.pcByte + 4)

/-! ### What an instruction did as a whole -/

/-- Only the pc changed: it is at `target`. -/
def OnlyWent (s t : State) (target : Word) : Prop :=
  SameR s t ∧ SameE s t ∧ SameMemory s t ∧ SameRest s t ∧ PcAt s t target

/-- Register x[d] was written, the pc is at `target`, and nothing else changed. -/
def WroteAndWent (s t : State) (d : Reg) (v : Word) (target : Word) : Prop :=
  WroteX s t d v ∧ SameMemory s t ∧ SameRest s t ∧ PcAt s t target

/-- Register x[d] was written, execution goes on with the next instruction, and nothing else changed. -/
def ResultAt (s : State) (d : Reg) (v : Word) (t : State) : Prop := WroteAndWent s t d v (s.pcByte + 4)

/-- Memory was written, execution goes on with the next instruction, and nothing else changed. -/
def StoredAt (s : State) (addr : Word) (n : Nat) (w : BitVec (8 * n)) (t : State) : Prop :=
  SameR s t ∧ SameE s t ∧ WroteMemory s t addr n w ∧ SameRest s t ∧ AtNext s t

/-- An exception was taken and nothing else happened: EPC holds the whole PC, ECODE the code, EADDR the bad address if there is
one; the level is 1 and execution goes on at `offset` bytes from EBASE, its two low bits dropped (R456, R458). -/
def TookException (s : State) (offset code : Word) (bad : Option Word) (t : State) : Prop :=
  SameR s t ∧ SameMemory s t ∧ SameRest s t ∧
    (∀ i : Reg, t.readE i =
      if i = 16 then s.pc else if i = 18 then code else if i = 17 then bad.getD (s.readE 17) else s.readE i) ∧
    t.el = 1 ∧ t.pcByte = (s.readE 0 + offset) &&& ~~~3

/-- The synchronous exception with this code was raised (R451, R455). -/
def Raised (s : State) (code : Word) (bad : Option Word) (t : State) : Prop := TookException s 0x80 code bad t

/-- A synchronous exception of one of the six kinds of R451 was raised: codes 0 and 1 leave EADDR as it was, codes 2 to 5 put an
address there. -/
def RaisedSome (s t : State) : Prop :=
  Raised s 0 none t ∨ Raised s 1 none t ∨ ∃ code ∈ ([2, 3, 4, 5] : List Word), ∃ addr, Raised s code (some addr) t

/-- The instruction answers a next state, of which `P` holds. -/
def Completes (i : Instr) (s : State) (P : State → Prop) : Prop := ∃ t, exec i s = .next t ∧ P t

/-! ### What an instruction asks of the state -/

/-- A load of `n` bytes at `addr` is aligned and allowed, and the bytes there are those of `w` (R69). -/
def LoadReady (s : State) (addr : Word) (n : Nat) (w : BitVec (8 * n)) : Prop :=
  addr.toNat % n = 0 ∧ s.accessOk .load addr n = true ∧ HoldsAt s addr n w

/-- A store of `n` bytes at `addr` is aligned and allowed (R69). -/
def StoreReady (s : State) (addr : Word) (n : Nat) : Prop := addr.toNat % n = 0 ∧ s.accessOk .store addr n = true

/-- The word `w` can be fetched at `addr` (R68). -/
def FetchReady (s : State) (addr : Word) (w : BitVec 32) : Prop :=
  s.accessOk .fetch addr 4 = true ∧ HoldsAt s addr 4 w

/-- A NOP that carries `imm` can be fetched at `addr` (R97, R256). -/
def NopReady (s : State) (addr : Word) (imm : BitVec 26) : Prop := FetchReady s addr (s.nopCode.code ++ imm)

/-- A step of `s` reaches its fetch: its level exists and no interrupt is taken (R26, R466). -/
def ReachesFetch (s : State) : Prop := s.el.toNat < 2 ∧ s.begun.chosenSource = none

/-- The sixteen immediate functions in the order of their codes: ADD, NADD, AND, CAND, OR, COR, XOR, SET, EQ, NE, LT, GE, LTU, GEU,
MIN, MAX (R241 to R255, R286). -/
def immediateFunctions : List (Word → Word → Word) :=
  [fun a i => a + i, fun a i => i - a, fun a i => a &&& i, fun a i => ~~~a &&& i, fun a i => a ||| i, fun a i => ~~~a ||| i,
    fun a i => a ^^^ i, fun _ i => i, fun a i => if a = i then 1 else 0, fun a i => if a = i then 0 else 1,
    fun a i => if a.slt i then 1 else 0, fun a i => if a.slt i then 0 else 1, fun a i => if a.ult i then 1 else 0,
    fun a i => if a.ult i then 0 else 1, fun a i => if a.slt i then a else i, fun a i => if a.slt i then i else a]

/-- The instructions that store: STORE and STORX (41_load_store.md). -/
def storesMemory : Instr → Bool
  | .sb _ _ _ => true
  | .sh _ _ _ => true
  | .sw _ _ _ => true
  | .sd _ _ _ => true
  | .sbX _ _ _ _ => true
  | .shX _ _ _ _ => true
  | .swX _ _ _ _ => true
  | .sdX _ _ _ _ => true
  | _ => false

/-! ### Floating-point numbers -/

/-- The rational number that a pattern stands for, if it is finite. -/
def FpFormat.number (F : FpFormat) (p : Nat) : Option ℚ :=
  match F.value p with
  | .num neg m q => some ((if neg then -1 else 1) * m * 2 ^ q)
  | .inf _ => none
  | .nan => none

/-- What a pattern that is no NaN stands for, with the two infinities at the ends of the numbers. -/
noncomputable def FpFormat.extended (F : FpFormat) (p : Nat) : Option EReal :=
  match F.value p with
  | .num neg m q => some (((if neg then -1 else 1) * m * 2 ^ q : ℝ) : EReal)
  | .inf neg => some (if neg then ⊥ else ⊤)
  | .nan => none

/-- The number from which on rounding to nearest gives an infinity: half a unit of the last place above the largest number of the
format. -/
noncomputable def FpFormat.overflowAt (F : FpFormat) : ℝ := (2 ^ (F.fracBits + 2) - 1) * 2 ^ ((F.bias : ℤ) - F.fracBits - 1)

/-- The pattern `p` is what rounding to nearest, ties to even, makes of the real number `x` (R356, R357): its sign is the given
one; from `overflowAt` on it is an infinity; below, it stands for a number of the format than which none is nearer to `x`, and it
is even when a different one is as near. -/
def FpFormat.Rounded (F : FpFormat) (neg : Bool) (x : ℝ) (p : Nat) : Prop :=
  F.negOf p = neg ∧ (F.overflowAt ≤ |x| → F.value p = .inf neg) ∧
    (|x| < F.overflowAt → ∃ r : ℚ, F.number p = some r ∧ ∀ (n : Nat) (z : ℚ), F.number n = some z →
      |(r : ℝ) - x| ≤ |(z : ℝ) - x| ∧ (|(r : ℝ) - x| = |(z : ℝ) - x| → z ≠ r → p % 2 = 0))

/-- The integer `n` is what the rounding mode makes of the number `x` (R357, R372). -/
def RoundsToInteger (rm : Config.RoundingMode) (x : ℚ) (n : ℤ) : Prop :=
  match rm with
  | .nearestEven => |x - n| ≤ 1 / 2 ∧ (|x - n| = 1 / 2 → n % 2 = 0)
  | .nearestAway => |x - n| ≤ 1 / 2 ∧ (|x - n| = 1 / 2 → |x| < |(n : ℚ)|)
  | .towardZero => n = if 0 ≤ x then ⌊x⌋ else ⌈x⌉
  | .upward => n = ⌈x⌉
  | .downward => n = ⌊x⌋

/-! ### The invariant -/

/-- Memory is in its canonical form, and the places of the reserved exception registers and the undefined counters hold 0. -/
def State.Inv (s : State) : Prop :=
  s.mem.wf s.addrBits = true ∧ (∀ i : Reg, undefinedE i = true → s.e[i] = 0) ∧ (∀ i : Reg, s.undefinedC i = true → s.c[i] = 0)

end Sys2Proof.Machine
end

