-- ==== Sys2Proof/Certificates/Slice0/Obligations.lean ====
section
/-! DEFINITION. The statements about the machine, for the provers. -/

open Sys2Proof Sys2Proof.Machine

/-- For every well-formed instruction i, of all 261 rows of the opcode table, with every operand at every value its field
admits, the decoder reads from the word of i the instruction i itself, whatever undefined opcode number OP_NOP is. (Choices of
the specification, not of the source: where each field of a word stands is D1 (log entry 1); that OP_NOP is one of the
undefined opcode numbers, with default 0, is D2 (log entry 2).) Rests on: 30_encoding.md sections 1 to 4 (R92 to R97, R106,
R108 to R119); 92_eei_decisions.md D1, D2; notes/assumptions 1 and 2. -/
def Obligations.EncodeThenDecode : Prop :=
  ∀ (nop : Config.NopCode) (i : Instr), i.WellFormed → decode nop (encode nop i) = .ok i

/-- For every 32-bit word, if the decoder reads an instruction from it, that instruction is well formed: every scale and shift
amount fits its field. Rests on: 30_encoding.md section 6 (R124); 30_encoding.md section 3 (R106). -/
def Obligations.DecodedIsWellFormed : Prop :=
  ∀ (nop : Config.NopCode) (w : BitVec 32) (i : Instr), decode nop w = .ok i → i.WellFormed

/-- If a word stands for the instruction i, then the decoder on bytes reads i from the four bytes of the word, least
significant byte first, and leaves the bytes that follow. (A choice of the specification, not of the source: that an
instruction word is read least significant byte first, as data is (MISA states the byte order for loads and stores only), is
D3 (log entry 3).) Rests on: 20_memory.md section 2 (R62, R63); 92_eei_decisions.md D3; notes/assumptions 3. -/
def Obligations.BytesOfAWord : Prop :=
  ∀ (nop : Config.NopCode) (w : BitVec 32) (i : Instr) (rest : List Byte), decode nop w = .ok i →
    decodeBytes nop (w.extractLsb' 0 8 :: w.extractLsb' 8 8 :: w.extractLsb' 16 8 :: w.extractLsb' 24 8 :: rest) = .ok (i, rest)

/-- Eighteen instruction words that the specification prints, from every family of the opcode table, decode to the
instructions they are printed for, whatever OP_NOP is; the all-zero word is a NOP when OP_NOP has its default 0. (Choices of
the specification, not of the source: where each field of a word stands is D1 (log entry 1); that OP_NOP is one of the
undefined opcode numbers, with default 0, is D2 (log entry 2).) Rests on: the example words of R141, R149, R155, R158, R190,
R196, R204, R241, R259, R262, R267, R283; the example words of R321, R368, R393, R404, R433, R438; 30_encoding.md section 1
(R97); 92_eei_decisions.md D1, D2; notes/assumptions 1 and 2. -/
def Obligations.SampleWords : Prop :=
  ∀ nop : Config.NopCode, decode nop 0x08000003 = .ok (.j 3) ∧ decode nop 0x2025FFFD = .ok (.beqi 1 5 (-3)) ∧ decode nop 0x5862FFFB = .ok (.loop 3 2 (-5)) ∧
    decode nop 0x3CBFFFFF = .ok (.jalr 5 31 (-1)) ∧ decode nop 0x608A5028 = .ok (.lh 4 10 40) ∧
    decode nop 0x64943FF8 = .ok (.sd 4 20 (-8)) ∧ decode nop 0x68867C0A = .ok (.ldX 4 6 3 10) ∧
    decode nop 0x8065007D = .ok (.addI 3 5 125) ∧ decode nop 0x846506A0 = .ok (.addI1 3 5 0x6A0) ∧
    decode nop 0x93DE0020 = .ok (.retAdd 30 30 32) ∧ decode nop 0x94253008 = .ok (.rorI 1 5 8) ∧
    decode nop 0xA0A54805 = .ok (.adds 5 5 4 5) ∧ decode nop 0xA4E3B487 = .ok (.orge 7 3 4 7) ∧
    decode nop 0xA8202805 = .ok (.cvtSI 1 5) ∧ decode nop 0xAC225805 = .ok (.divS 1 2 5) ∧
    decode nop 0xB0225065 = .ok (.maddS 1 2 3 5) ∧ decode nop 0xF0002FFF = .ok (.sret (-1)) ∧ decode nop 0xF4801401 = .ok (.mover 4 1) ∧
    decode Config.opNop 0 = .ok (.nop 0)

/-- A word whose opcode number is in no table is a NOP when it is OP_NOP and is refused as an undefined opcode when it is not;
a word with a defined opcode whose function code f, x or p is not listed is refused as an undefined function. All hold for
every value of the other fields and of OP_NOP, which is one of the undefined numbers. (Choices of the specification, not of
the source: where each field of a word stands is D1 (log entry 1); that OP_NOP is one of the undefined opcode numbers, with
default 0, is D2 (log entry 2).) Rests on: 30_encoding.md section 1 (R97); 30_encoding.md sections 4 and 5 (R108 to R121);
42_integer.md (R224); 43_three_operand.md (R303); 44_floating_point.md (R358); 45_system.md (R442); 92_eei_decisions.md D1,
D2; notes/assumptions 1 and 2. -/
def Obligations.UndefinedCodesAreRefused : Prop :=
  ∀ (nop : Config.NopCode) (w : BitVec 32),
    ((w.extractLsb' 26 6).toNat ∈ [0, 1, 4, 5, 6, 7, 28, 29, 30, 31, 38, 39, 45, 46, 47, 48, 49, 50, 51, 52, 53, 54, 55, 56, 57, 58,
        59, 62, 63] → w.extractLsb' 26 6 ≠ nop.code → decode nop w = .error (.undefinedOpcode (w.extractLsb' 26 6).toNat)) ∧
    (w.extractLsb' 26 6 = nop.code → decode nop w = .ok (.nop (w.extractLsb' 0 26))) ∧
    (((w.extractLsb' 26 6).toNat ∈ [24, 26] ∧ 8 ≤ (w.extractLsb' 12 4).toNat ∨
        (w.extractLsb' 26 6).toNat ∈ [25, 27] ∧ 4 ≤ (w.extractLsb' 12 4).toNat ∨
        (w.extractLsb' 26 6).toNat = 37 ∧ (w.extractLsb' 12 4).toNat ∈ [4, 5, 6, 7, 9, 10, 11] ∨
        (w.extractLsb' 26 6).toNat = 40 ∧ (w.extractLsb' 10 2).toNat = 1 ∧ (w.extractLsb' 12 4).toNat ∈ [4, 5, 6, 7, 9, 10, 11] ∨
        (w.extractLsb' 26 6).toNat = 41 ∧ ((w.extractLsb' 10 2).toNat = 0 ∧ 8 ≤ (w.extractLsb' 12 4).toNat ∨
          (w.extractLsb' 10 2).toNat = 2 ∧ ((w.extractLsb' 12 4).toNat = 3 ∨ 6 ≤ (w.extractLsb' 12 4).toNat) ∨
          (w.extractLsb' 10 2).toNat = 3) ∨
        (w.extractLsb' 26 6).toNat = 60 ∧ 3 ≤ (w.extractLsb' 12 4).toNat ∨
        (w.extractLsb' 26 6).toNat = 61 ∧
          ((w.extractLsb' 12 4).toNat, (w.extractLsb' 10 2).toNat) ∉ [(0, 0), (0, 1), (1, 1), (2, 1)]) →
      decode nop w = .error (.undefinedFunction (w.extractLsb' 26 6).toNat (w.extractLsb' 12 4).toNat (w.extractLsb' 10 2).toNat)) ∧
    (((w.extractLsb' 26 6).toNat = 42 ∧ ((w.extractLsb' 11 5).toNat = 3 ∨ 8 ≤ (w.extractLsb' 11 5).toNat) ∨
        (w.extractLsb' 26 6).toNat = 43 ∧ ((w.extractLsb' 11 5).toNat ∈ [6, 7] ∨ 14 ≤ (w.extractLsb' 11 5).toNat) ∨
        (w.extractLsb' 26 6).toNat = 44 ∧ 14 ≤ (w.extractLsb' 11 5).toNat) →
      decode nop w = .error (.undefinedFunction (w.extractLsb' 26 6).toNat (w.extractLsb' 11 5).toNat (w.extractLsb' 10 1).toNat))

/-- Two words that differ only in a field that their instruction ignores decode alike. (For undefined function codes the name
of the refusal holds only f and x, or f and p, which both words share.) (Choices of the specification, not of the source:
where each field of a word stands is D1 (log entry 1); that an ignored field may hold anything is D29 (log entry 29); that the
l field of ROR is ignored is D31 (log entry 31).) Rests on: 30_encoding.md section 2 (R100); 92_eei_decisions.md D1, D29, D31;
notes/assumptions 1, 29 and 31. -/
def Obligations.IgnoredFieldsDoNotMatter : Prop :=
  ∀ (nop : Config.NopCode) (w v : BitVec 32),
    (w.extractLsb' 26 6 = 14 → w &&& 0xFFE0FFFF = v &&& 0xFFE0FFFF → decode nop w = decode nop v) ∧
    ((w.extractLsb' 26 6).toNat ∈ [26, 40, 43] → w &&& 0xFFFFFC1F = v &&& 0xFFFFFC1F → decode nop w = decode nop v) ∧
    (w.extractLsb' 26 6 = 27 → w &&& 0xFFFFFFE0 = v &&& 0xFFFFFFE0 → decode nop w = decode nop v) ∧
    ((w.extractLsb' 26 6).toNat ∈ [42, 61] → w &&& 0xFFE0FC1F = v &&& 0xFFE0FC1F → decode nop w = decode nop v) ∧
    (w.extractLsb' 26 6 = 60 → w &&& 0xFC00FFFF = v &&& 0xFC00FFFF → decode nop w = decode nop v) ∧
    (w.extractLsb' 26 6 = 37 → w.extractLsb' 12 4 = 3 → w &&& 0xFFFFF03F = v &&& 0xFFFFF03F → decode nop w = decode nop v)

/-- From every state that meets the invariant (memory in canonical form; the places of the reserved exception registers and of
the undefined counters hold 0), not only from states that a run reaches, a step that answers a next state answers one that
meets it. Rests on: 10_state.md (R30, R42); 20_memory.md (R62); 60_exceptions.md section 8 (R476). -/
def Obligations.StepKeepsInvariant : Prop :=
  ∀ s t : State, s.Inv → step s = .next t → t.Inv

/-- The invariant that every step keeps holds of the machine right after reset, whatever the address and the level it starts
at and the INTM it starts with. (A choice of the specification, not of the source: the values after reset is D19 (log entries
19 and 40).) Rests on: 70_reset_and_hazards.md section 1 (R500); 10_state.md (R30, R46); 92_eei_decisions.md D19;
notes/assumptions 19 and 40. -/
def Obligations.ResetMeetsInvariant : Prop :=
  State.reset.Inv ∧ ∀ (addr : BitVec 62) (level : BitVec 2) (intm : Word), (State.resetAt addr level intm).Inv

/-- After reset every counter reads 0, the reserved exception registers read 0, the level is EL1, INTM is 0 (its default), no
byte of memory has a value, no interrupt source exists, irq has its other defaults, and ADDR_BITS, OP_NOP, counter_impl, fp
and access_ok have theirs, so that every address names its own byte; with other values of RESET_PC, reset.EL and reset.INTM
the machine starts with those. Choices of the model or of the specification, not of the source: no value in memory takes the
image of R500 to be empty (log entry 41); the values of irq, no source among them, are the defaults of R463, D18 (log entry
18); ADDR_BITS, OP_NOP, counter_impl and fp have the defaults of R4, D6, D2, D24 and D22 (log entries 6, 2, 24 and 22); that
access_ok holds everywhere is the model's choice, D21 (log entry 21); EL1 and INTM 0 are D19, and that the pc is 0 is the
model's choice of RESET_PC (log entry 19); that R0 to R31 and the other exception registers hold 0 is the model's choice (log
entry 40). Rests on: 10_state.md section 7 (R46); 70_reset_and_hazards.md section 1 (R500, R501); 60_exceptions.md section 4
(R463); 00_scope.md section 4 (R4); 30_encoding.md section 1 (R97); 44_floating_point.md section 1 (R356, R357);
92_eei_decisions.md D2, D6, D18, D19, D21, D22, D24; notes/assumptions 2, 6, 18, 19, 21, 22, 24, 40 and 41. -/
def Obligations.StateAfterReset : Prop :=
  (∀ i : Reg, State.reset.readC i = 0) ∧
    (∀ i : Reg, 8 ≤ i.val ∧ i.val ≤ 15 ∨ 21 ≤ i.val ∧ i.val ≤ 29 → State.reset.readE i = 0) ∧
    State.reset.el = 1 ∧ State.reset.readE 20 = 0 ∧ (∀ a, State.reset.mem.read a = none) ∧ State.reset.irqSources = 0 ∧
    State.reset.irqInstance = .standard ∧ State.reset.irqAtEl1 = true ∧ State.reset.irqInputs = [] ∧
    State.reset.addrBits.count = 64 ∧ (∀ a, State.reset.byteNo a = a.toNat) ∧ State.reset.nopCode.code = 0 ∧ (∀ i : Reg, State.reset.counterImpl[i] = false) ∧ State.reset.fp = ieee .nearestEven ∧
    (∀ k addr n, State.reset.accessOk k addr n = true) ∧
    State.reset.pcByte = 0 ∧ (∀ i : Reg, State.reset.readR i = 0 ∧ State.reset.readE i = 0) ∧
    (∀ (addr : BitVec 62) (level : BitVec 2) (intm : Word), (State.resetAt addr level intm).pc = addr ++ level ∧
      (State.resetAt addr level intm).readE 20 = intm)

/-- When the level exists, no interrupt is taken and the word at the pc can be fetched and decodes to a well-formed
instruction i, the step is exec of i in the state in which the step has begun: the same registers, memory and pc, with the
counters updated and INTS sampled. (Choices of the specification, not of the source: that an instruction word is read least
significant byte first, as data is (MISA states the byte order for loads and stores only), is D3 (log entry 3); that the
counters are draws that never go down, made as a step begins, is D24 (log entry 24); that INTS is given its value as a step
begins is D18 (log entry 18).) Where an address reaches memory its bits at or above ADDR_BITS are dropped: the model says so,
as R25 asks of a model with fewer than 64, and D6 leaves it open (log entry 6). Rests on: 60_exceptions.md section 8 (R476);
20_memory.md section 4 (R68); 30_encoding.md section 6 (R124); 10_state.md section 2 (R25); 92_eei_decisions.md D3, D6, D18,
D24; notes/assumptions 3, 6, 18 and 24. -/
def Obligations.StepRunsTheDecodedInstruction : Prop :=
  ∀ (s : State) (w : BitVec 32) (i : Instr), ReachesFetch s → FetchReady s s.pcByte w → decode s.nopCode w = .ok i → i.WellFormed →
    step s = exec i s.begun

/-- As a step begins, the general registers, the pc, memory and every exception register but INTS read as before; INTS reads
as before when the platform gives it no value, and the value given otherwise; no counter goes down; at EL0 the counters of EL1
(ICNT1, CCNT1) stay, above EL0 those of EL0 (ICNT0, CCNT0) stay; an undefined counter (none of the five, and not added by
counter_impl) reads 0; the parameters stay. (Choices of the specification, not of the source: that the counters are draws that
never go down, made as a step begins, is D24 (log entry 24); that INTS takes the given values in their order, one as each step
begins, is D18 (log entry 18).) Rests on: 10_state.md section 5 (R41 to R43); 60_exceptions.md sections 4 and 8 (R463, R476);
00_scope.md section 4 (R4); 92_eei_decisions.md D18, D24; notes/assumptions 18 and 24. -/
def Obligations.HowAStepBegins : Prop :=
  ∀ s : State, SameR s s.begun ∧ SameMemory s s.begun ∧ s.begun.pc = s.pc ∧
    (∀ i : Reg, i ≠ 19 → s.begun.readE i = s.readE i) ∧ (s.irqInputs = [] → s.begun.readE 19 = s.readE 19) ∧
    (∀ v rest, s.irqInputs = v :: rest → s.begun.readE 19 = v ∧ s.begun.irqInputs = rest) ∧
    (∀ i : Reg, (s.readC i).toNat ≤ (s.begun.readC i).toNat) ∧
    (s.el = 0 → s.begun.readC 1 = s.readC 1 ∧ s.begun.readC 5 = s.readC 5) ∧
    (s.el ≠ 0 → s.begun.readC 0 = s.readC 0 ∧ s.begun.readC 4 = s.readC 4) ∧
    (∀ i : Reg, i.val ∉ [0, 1, 4, 5, 8] → s.counterImpl[i] = false → s.readC i = 0) ∧ SameParameters s s.begun

/-- When PC.EL is 2 or 3, levels that the architecture reserves, the step refuses by name. When the level exists and no
interrupt is taken: a fetch that the platform refuses raises IllegalFetch with the fetch address in EADDR; a fetched word that
stands for no instruction raises InvalidInstruction and leaves EADDR as it was; a word one byte of which has no value is the
model fault of R501. (Choices of the specification, not of the source: what the entry saves and where it goes (all of PC in
EPC, EADDR as it was without a bad address, the low bits of EBASE dropped) is D17 (log entry 17); that a raising instruction
does nothing else is D25 (log entry 25); that an instruction word is read least significant byte first, as data is (MISA
states the byte order for loads and stores only), is D3 (log entry 3); that the check of the fetch comes before the decoding
is D16 (log entry 16); that a step at level 2 or 3 is refused is D27 (log entry 44); that the model stops at a byte nothing
has written is D19 (log entry 41).) Where an address reaches memory its bits at or above ADDR_BITS are dropped: the model says
so, as R25 asks of a model with fewer than 64, and D6 leaves it open (log entry 6). Rests on: 60_exceptions.md sections 1, 2
and 8 (R452, R454 to R457, R476); 20_memory.md section 4 (R68); 30_encoding.md section 5 (R120, R121); 70_reset_and_hazards.md
section 1 (R501); 10_state.md section 2 (R26); 93_implementation_defined.md U9; 10_state.md section 2 (R25);
92_eei_decisions.md D3, D6, D16, D17, D19, D25, D27; notes/assumptions 3, 6, 16, 17, 25, 41 and 44. -/
def Obligations.StepWithoutAnInstruction : Prop :=
  ∀ s : State, (s.el = 2 ∨ s.el = 3 → step s = .refused (.reservedLevel s.el)) ∧ (ReachesFetch s →
    (s.accessOk .fetch s.pcByte 4 = false → ∃ t, step s = .next t ∧ Raised s.begun 3 (some s.pcByte) t) ∧
    (∀ (w : BitVec 32) (e : DecodeError), FetchReady s s.pcByte w → decode s.nopCode w = .error e →
      ∃ t, step s = .next t ∧ Raised s.begun 0 none t) ∧
    (s.accessOk .fetch s.pcByte 4 = true → LacksByte s s.pcByte 4 → step s = .fault (.noValue s.pcByte)))

/-- When the level exists, let w be the word of the sources whose bit in INTS is set and which irq.enabled enables as the step
begins. If w is 0, no interrupt is taken. If it is not 0 and interrupts can be taken at this level, the step takes a source k
of w: the one that irq.choose names, if that is one of w; it enters the asynchronous handler with ECODE irq.ecode(k), EPC the
current pc and no bad address, and no instruction executes. With the default rules INTM itself enables, the lowest source of w
is taken, and ECODE becomes its number. Above EL0 no interrupt is taken where the platform takes none there. (Choices of the
specification, not of the source: the defaults of irq (INTM bit i enables source i, the lowest source first, ECODE its number)
is D18 (log entry 18); that an interrupt comes before the fetch is D16 (log entry 16); what the entry saves and where it goes
(all of PC in EPC, EADDR as it was without a bad address, the low bits of EBASE dropped) is D17 (log entry 17).) Rests on:
60_exceptions.md section 4 (R463, R466); 60_exceptions.md section 3 (R461); 60_exceptions.md section 2 (R456, R457);
00_scope.md section 4 (R4); 92_eei_decisions.md D16, D17, D18; notes/assumptions 16, 17 and 18. -/
def Obligations.TakingAnInterrupt : Prop :=
  ∀ s : State, s.el.toNat < 2 →
    (∀ w : Word, (∀ k : Nat, w.getLsbD k =
        (s.irqSources.getLsbD k && (s.begun.readE 19).getLsbD k && (s.irq.enabled (s.begun.readE 20)).getLsbD k)) →
      (w = 0 → ReachesFetch s) ∧
      (w ≠ 0 → (s.el = 0 ∨ s.irqAtEl1 = true) →
        ∃ k, k < 64 ∧ w.getLsbD k = true ∧ (w.getLsbD (s.irq.choose w) = true → k = s.irq.choose w) ∧
          ∃ t, step s = .next t ∧ TookException s.begun 0xC0 (s.irq.ecode k) none t) ∧
      (s.irqInstance = .standard → s.irq.enabled (s.begun.readE 20) = s.begun.readE 20 ∧
        ∀ k : Nat, (s.el = 0 ∨ s.irqAtEl1 = true) → w.getLsbD k = true → (∀ j, j < k → w.getLsbD j = false) →
          ∃ t, step s = .next t ∧ TookException s.begun 0xC0 (BitVec.ofNat 64 k) none t)) ∧
    (s.el ≠ 0 → s.irqAtEl1 = false → ReachesFetch s)

/-- A step that answers a next state leaves every counter at least as great, as an unsigned number, as it was. (A choice of
the specification, not of the source: that the counters are draws that never go down, made as a step begins, is D24 (log entry
24).) Rests on: 10_state.md section 5 (R41, R43); 92_eei_decisions.md D24; notes/assumptions 24. -/
def Obligations.CountersNeverGoDown : Prop :=
  ∀ s t : State, step s = .next t → ∀ i : Reg, (s.readC i).toNat ≤ (t.readC i).toNat

/-- For every instruction and every state: if exec answers a next state, every counter, every parameter (ADDR_BITS, OP_NOP,
counter_impl, fp with its rounding mode, the protection of the platform, the interrupt sources) and the inputs still to come
are as they were. (Choices of the specification, not of the source: that the protection is fixed is D21 (log entry 21); that
fp is fixed is D22 (log entry 22); that irq is fixed is D18 (log entry 18).) Rests on: 10_state.md section 5 (R41);
60_exceptions.md section 4 (R463); 20_memory.md section 4 (R70); 44_floating_point.md section 1 (R357); 00_scope.md section 4
(R4); 92_eei_decisions.md D18, D21, D22; notes/assumptions 18, 21 and 22. -/
def Obligations.NoInstructionWritesCounters : Prop :=
  ∀ (i : Instr) (s t : State), exec i s = .next t → SameRest s t

/-- For every instruction and every state: if exec answers a next state, then the execution level is unchanged; or the
instruction is SCALL or DCALL and entered the handler at EBASE + 0x00 or EBASE + 0x40 with ECODE its Imm12; or one of the six
synchronous exceptions was raised (handler at EBASE + 0x80, ECODE 0, 1 or with a bad address 2 to 5; ECODE 1 only from EL0),
in each case with EPC, ECODE, EADDR and level 1 as the entry sets them and nothing else; or the instruction is an SRET above
EL0 and the level is the one saved in EPC. (Choices of the specification, not of the source: that ECODE is the zero-extended
Imm12 for both calls is D14 (log entry 14); that SRET at EL0 raises code 1 is D15 (log entry 15); that the three moves raise
code 1 at EL0 is D33 (log entry 33); what the entry saves and where it goes (all of PC in EPC, EADDR as it was without a bad
address, the low bits of EBASE dropped) is D17 (log entry 17); that a raising instruction does nothing else is D25 (log entry
25); that an exception at EL1 is an ordinary entry is D26 (log entry 26).) Rests on: 10_state.md section 2 (R26);
60_exceptions.md sections 1 and 2 (R451, R455 to R458); 60_exceptions.md section 5 (R464); 40_control_flow.md section 1
(R140); 45_system.md sections 1 and 4 (R431 to R433, R442); 92_eei_decisions.md D14, D15, D17, D25, D26, D33;
notes/assumptions 14, 15, 17, 25, 26 and 33. -/
def Obligations.WhatChangesTheLevel : Prop :=
  ∀ (i : Instr) (s t : State), exec i s = .next t →
    t.el = s.el ∨ (∃ imm, i = .scall imm ∧ TookException s 0x00 (imm.zeroExtend 64) none t) ∨
      (∃ imm, i = .dcall imm ∧ TookException s 0x40 (imm.zeroExtend 64) none t) ∨
      RaisedSome s t ∧ (s.el ≠ 0 → ¬Raised s 1 none t) ∨
      ∃ imm, i = .sret imm ∧ s.el ≠ 0 ∧ t.el = (s.readE 16).extractLsb' 0 2

/-- From every state at EL0: if the step answers a next state, then either the level is still EL0 and every exception register
reads as it did when the step had begun, or an exception was taken: a system or debugger call (EBASE + 0x00 or 0x40, ECODE a
zero-extended Imm12), one of the six synchronous exceptions (EBASE + 0x80), or an interrupt (EBASE + 0xC0, ECODE irq.ecode of
a source, by default its number). It wrote EPC, ECODE and perhaps EADDR and nothing else. (Choices of the specification, not
of the source: which register file a field names at each level is D4 (log entry 4); that ECODE is the zero-extended Imm12 for
both calls is D14 (log entry 14); that SRET at EL0 raises code 1 is D15 (log entry 15); that the three moves raise code 1 at
EL0 is D33 (log entry 33); what the entry saves and where it goes (all of PC in EPC, EADDR as it was without a bad address,
the low bits of EBASE dropped) is D17 (log entry 17); the defaults of irq (INTM bit i enables source i, the lowest source
first, ECODE its number) is D18 (log entry 18); that a raising instruction does nothing else is D25 (log entry 25).) Rests on:
10_state.md section 4 (R27, R40); 60_exceptions.md sections 1, 2 and 4 (R451, R455 to R458, R466); 60_exceptions.md section 5
(R464); 45_system.md section 4 (R443); 92_eei_decisions.md D4, D14, D15, D17, D18, D25, D33; notes/assumptions 4, 14, 15, 17,
18, 25 and 33. -/
def Obligations.UserStepsCannotTouchExceptionRegisters : Prop :=
  ∀ s t : State, s.el = 0 → step s = .next t →
    (t.el = 0 ∧ SameE s.begun t) ∨
      (∃ imm : BitVec 12, TookException s.begun 0x00 (imm.zeroExtend 64) none t ∨ TookException s.begun 0x40 (imm.zeroExtend 64) none t) ∨
      RaisedSome s.begun t ∨
      ∃ k, k < 64 ∧ s.irqSources.getLsbD k = true ∧ TookException s.begun 0xC0 (s.irq.ecode k) none t ∧
        (s.irqInstance = .standard → s.irq.ecode k = BitVec.ofNat 64 k)

/-- For every instruction but MOVRC and MOVRE and every state above EL0: if exec answers a next state, every general register
reads as before. (A choice of the specification, not of the source: that every other register field names an exception
register above EL0 (R27 calls it its reading) is D4 (log entry 4).) Rests on: 10_state.md section 3 (R27); 45_system.md
section 3 (R440); 60_exceptions.md section 2 (R458); 92_eei_decisions.md D4; notes/assumptions 4. -/
def Obligations.OnlyTwoMovesReachGeneralRegistersAboveUser : Prop :=
  ∀ (i : Instr) (s t : State), s.el ≠ 0 → exec i s = .next t → (∀ a d, i ≠ .movrc a d ∧ i ≠ .movre a d) → SameR s t

/-- For every instruction that is no STORE and no STORX, and every state: if exec answers a next state, every byte of memory
reads as before. (A choice of the specification, not of the source: that a raising instruction does nothing else is D25 (log
entry 25).) Rests on: 20_memory.md section 1 (R61); 60_exceptions.md sections 2 and 3 (R458, R470); 41_load_store.md sections
3 and 5; 92_eei_decisions.md D25; notes/assumptions 25. -/
def Obligations.OnlyStoresWriteMemory : Prop :=
  ∀ (i : Instr) (s t : State), storesMemory i = false → exec i s = .next t → SameMemory s t

/-- In every state J and JAL go to pc plus four times the signed offset, JR and JALR to the register value with its two low
bits cleared plus four times the signed offset; JAL writes the whole PC plus 4 to register 31 of the current bank, JALR to
register b; the jump uses the value that register a held before. Nothing else changes; the level stays. (Choices of the
specification, not of the source: that the link is the whole PC plus 4, level bits included, is D5 (log entry 5); that
register 31 and every register field are those of the current bank is D4 (log entry 4); that addresses are taken modulo 2^64
is D6 (log entry 6).) Rests on: 40_control_flow.md sections 1, 2 and 6 (R140, R141, R142, R157, R158, R160); 30_encoding.md
section 3 (R101, R103); 92_eei_decisions.md D4, D5, D6; notes/assumptions 4, 5 and 6. -/
def Obligations.JumpsComplete : Prop :=
  ∀ (s : State) (a b : Reg),
    (∀ off : BitVec 26, Completes (.j off) s fun t => OnlyWent s t (s.pcByte + off.signExtend 64 * 4)) ∧
    (∀ off : BitVec 26, Completes (.jal off) s fun t => WroteAndWent s t 31 (s.pc + 4) (s.pcByte + off.signExtend 64 * 4)) ∧
    (∀ off : BitVec 16, Completes (.jr a off) s fun t => OnlyWent s t ((s.readX a &&& ~~~3) + off.signExtend 64 * 4)) ∧
    (∀ off : BitVec 16, Completes (.jalr a b off) s fun t =>
      WroteAndWent s t b (s.pc + 4) ((s.readX a &&& ~~~3) + off.signExtend 64 * 4))

/-- In every state BEQ, BNE, BLT, BGE, BLTU and BGEU go to pc plus four times the signed offset when their comparison of the
two registers holds (the bits; the signed numbers; the unsigned numbers) and to pc + 4 when it does not. Nothing else changes,
no exception is raised. The B-format words with opcode numbers 16 to 21 decode to them in this order. Rests on: R143; R144;
R145; R146; R147; R148. -/
def Obligations.BranchesComplete : Prop :=
  ∀ p ∈ ([(Instr.beq, 16, fun x y => x == y), (Instr.bne, 17, fun x y => x != y), (Instr.blt, 18, BitVec.slt),
      (Instr.bge, 19, fun x y => y.sle x), (Instr.bltu, 20, BitVec.ult), (Instr.bgeu, 21, fun x y => y.ule x)] :
      List ((Reg → Reg → BitVec 16 → Instr) × BitVec 6 × (Word → Word → Bool))),
    ∀ (nop : Config.NopCode) (s : State) (a b : Reg) (off : BitVec 16), decode nop (formatB p.2.1 a b off) = .ok (p.1 a b off) ∧
      Completes (p.1 a b off) s fun t =>
        OnlyWent s t (if p.2.2 (s.readX a) (s.readX b) then s.pcByte + off.signExtend 64 * 4 else s.pcByte + 4)

/-- In every state BEQI, BNEI, BLTI, BGEI, BLTUI and BGEUI compare the register with the five-bit immediate, zero-extended
also for the signed comparisons, and go to pc plus four times the signed offset when the comparison holds, else to pc + 4.
Nothing else changes, no exception is raised. The B-format words with opcode numbers 8 to 13 decode to them in this order.
Rests on: R149; R150; R151; R152; R153; R154. -/
def Obligations.ImmediateBranchesComplete : Prop :=
  ∀ p ∈ ([(Instr.beqi, 8, fun x y => x == y), (Instr.bnei, 9, fun x y => x != y), (Instr.blti, 10, BitVec.slt),
      (Instr.bgei, 11, fun x y => y.sle x), (Instr.bltui, 12, BitVec.ult), (Instr.bgeui, 13, fun x y => y.ule x)] :
      List ((Reg → BitVec 5 → BitVec 16 → Instr) × BitVec 6 × (Word → Word → Bool))),
    ∀ (nop : Config.NopCode) (s : State) (a : Reg) (imm : BitVec 5) (off : BitVec 16), decode nop (formatBI p.2.1 a imm off) = .ok (p.1 a imm off) ∧
      Completes (p.1 a imm off) s fun t =>
        OnlyWent s t (if p.2.2 (s.readX a) (imm.zeroExtend 64) then s.pcByte + off.signExtend 64 * 4 else s.pcByte + 4)

/-- In every state LOOP adds 1 to register b and LOOPD subtracts 1, modulo 2^64, whether or not they branch; they go to pc
plus four times the signed offset when the new value differs from the value register a held before, else to pc + 4. Nothing
else changes, no exception is raised. The B-format words with opcode numbers 22 and 23 decode to them. Rests on: R155; R156.
-/
def Obligations.LoopsComplete : Prop :=
  ∀ (nop : Config.NopCode) (s : State) (a b : Reg) (off : BitVec 16),
    decode nop (formatB 22 a b off) = .ok (.loop a b off) ∧ decode nop (formatB 23 a b off) = .ok (.loopd a b off) ∧
    (Completes (.loop a b off) s fun t => WroteAndWent s t b (s.readX b + 1)
      (if s.readX b + 1 = s.readX a then s.pcByte + 4 else s.pcByte + off.signExtend 64 * 4)) ∧
    (Completes (.loopd a b off) s fun t => WroteAndWent s t b (s.readX b - 1)
      (if s.readX b - 1 = s.readX a then s.pcByte + 4 else s.pcByte + off.signExtend 64 * 4))

/-- At the address x[a] plus the signed displacement, modulo 2^64, when it is a multiple of the size and the platform allows
the load: each load writes register b with the 1, 2, 4 or 8 bytes there, least significant first, zero-extended by LBU, LHU,
LWU and LDU and sign-extended by LB, LH, LW and LD. Nothing else changes, and the next instruction follows. The same holds of
the eight loads with a scaled index and their destination register d, at the address x[a] plus x[b] shifted left by the scale.
(Choices of the specification, not of the source: which register file a field names at each level is D4 (log entry 4); that
addresses are taken modulo 2^64 is D6 (log entry 6).) Where an address reaches memory its bits at or above ADDR_BITS are
dropped: the model says so, as R25 asks of a model with fewer than 64, and D6 leaves it open (log entry 6). Rests on:
41_load_store.md sections 1, 2 and 4 (R180, R181, R183, R185 to R192, R197 to R204); 20_memory.md sections 2 and 4 (R62, R69);
10_state.md section 2 (R25); 92_eei_decisions.md D4, D6; notes/assumptions 4 and 6. -/
def Obligations.LoadsComplete : Prop :=
  (∀ (s : State) (a b : Reg) (imm : BitVec 12),
    (∀ w, LoadReady s (s.readX a + imm.signExtend 64) 1 w → Completes (.lbu a b imm) s (ResultAt s b (w.zeroExtend 64))) ∧
    (∀ w, LoadReady s (s.readX a + imm.signExtend 64) 2 w → Completes (.lhu a b imm) s (ResultAt s b (w.zeroExtend 64))) ∧
    (∀ w, LoadReady s (s.readX a + imm.signExtend 64) 4 w → Completes (.lwu a b imm) s (ResultAt s b (w.zeroExtend 64))) ∧
    (∀ w, LoadReady s (s.readX a + imm.signExtend 64) 8 w → Completes (.ldu a b imm) s (ResultAt s b (w.zeroExtend 64))) ∧
    (∀ w, LoadReady s (s.readX a + imm.signExtend 64) 1 w → Completes (.lb a b imm) s (ResultAt s b (w.signExtend 64))) ∧
    (∀ w, LoadReady s (s.readX a + imm.signExtend 64) 2 w → Completes (.lh a b imm) s (ResultAt s b (w.signExtend 64))) ∧
    (∀ w, LoadReady s (s.readX a + imm.signExtend 64) 4 w → Completes (.lw a b imm) s (ResultAt s b (w.signExtend 64))) ∧
    (∀ w, LoadReady s (s.readX a + imm.signExtend 64) 8 w → Completes (.ld a b imm) s (ResultAt s b (w.signExtend 64)))) ∧
  (∀ (s : State) (a b d : Reg) (sc : Nat), sc < 4 →
    (∀ w, LoadReady s (s.readX a + s.readX b <<< sc) 1 w → Completes (.lbuX a b sc d) s (ResultAt s d (w.zeroExtend 64))) ∧
    (∀ w, LoadReady s (s.readX a + s.readX b <<< sc) 2 w → Completes (.lhuX a b sc d) s (ResultAt s d (w.zeroExtend 64))) ∧
    (∀ w, LoadReady s (s.readX a + s.readX b <<< sc) 4 w → Completes (.lwuX a b sc d) s (ResultAt s d (w.zeroExtend 64))) ∧
    (∀ w, LoadReady s (s.readX a + s.readX b <<< sc) 8 w → Completes (.lduX a b sc d) s (ResultAt s d (w.zeroExtend 64))) ∧
    (∀ w, LoadReady s (s.readX a + s.readX b <<< sc) 1 w → Completes (.lbX a b sc d) s (ResultAt s d (w.signExtend 64))) ∧
    (∀ w, LoadReady s (s.readX a + s.readX b <<< sc) 2 w → Completes (.lhX a b sc d) s (ResultAt s d (w.signExtend 64))) ∧
    (∀ w, LoadReady s (s.readX a + s.readX b <<< sc) 4 w → Completes (.lwX a b sc d) s (ResultAt s d (w.signExtend 64))) ∧
    (∀ w, LoadReady s (s.readX a + s.readX b <<< sc) 8 w → Completes (.ldX a b sc d) s (ResultAt s d (w.signExtend 64))))

/-- At the address x[a] plus the signed displacement, when it is a multiple of the size and the platform allows the store:
each store leaves the low 1, 2, 4 or 8 bytes of register b there, least significant first; every other byte reads as before,
no register changes, and the next instruction follows. The same holds of the four stores with a scaled index and their source
register c, at the address x[a] plus x[b] shifted left by the scale. (Choices of the specification, not of the source: which
register file a field names at each level is D4 (log entry 4); that addresses are taken modulo 2^64 is D6 (log entry 6).)
Where an address reaches memory its bits at or above ADDR_BITS are dropped: the model says so, as R25 asks of a model with
fewer than 64, and D6 leaves it open (log entry 6). Rests on: 41_load_store.md sections 3 and 5 (R180, R181, R193 to R196,
R205 to R208); 20_memory.md sections 2 and 4 (R62, R69); 10_state.md section 2 (R25); 92_eei_decisions.md D4, D6;
notes/assumptions 4 and 6. -/
def Obligations.StoresComplete : Prop :=
  (∀ (s : State) (a b : Reg) (imm : BitVec 12),
    (StoreReady s (s.readX a + imm.signExtend 64) 1 → Completes (.sb a b imm) s (StoredAt s (s.readX a + imm.signExtend 64) 1 ((s.readX b).setWidth (8 * 1)))) ∧
    (StoreReady s (s.readX a + imm.signExtend 64) 2 → Completes (.sh a b imm) s (StoredAt s (s.readX a + imm.signExtend 64) 2 ((s.readX b).setWidth (8 * 2)))) ∧
    (StoreReady s (s.readX a + imm.signExtend 64) 4 → Completes (.sw a b imm) s (StoredAt s (s.readX a + imm.signExtend 64) 4 ((s.readX b).setWidth (8 * 4)))) ∧
    (StoreReady s (s.readX a + imm.signExtend 64) 8 → Completes (.sd a b imm) s (StoredAt s (s.readX a + imm.signExtend 64) 8 ((s.readX b).setWidth (8 * 8))))) ∧
  (∀ (s : State) (a b c : Reg) (sc : Nat), sc < 4 →
    (StoreReady s (s.readX a + s.readX b <<< sc) 1 → Completes (.sbX a b sc c) s (StoredAt s (s.readX a + s.readX b <<< sc) 1 ((s.readX c).setWidth (8 * 1)))) ∧
    (StoreReady s (s.readX a + s.readX b <<< sc) 2 → Completes (.shX a b sc c) s (StoredAt s (s.readX a + s.readX b <<< sc) 2 ((s.readX c).setWidth (8 * 2)))) ∧
    (StoreReady s (s.readX a + s.readX b <<< sc) 4 → Completes (.swX a b sc c) s (StoredAt s (s.readX a + s.readX b <<< sc) 4 ((s.readX c).setWidth (8 * 4)))) ∧
    (StoreReady s (s.readX a + s.readX b <<< sc) 8 → Completes (.sdX a b sc c) s (StoredAt s (s.readX a + s.readX b <<< sc) 8 ((s.readX c).setWidth (8 * 8)))))

/-- For the loads and stores of 2, 4 and 8 bytes, with a displacement and with a scaled index: when the effective address is
not a multiple of the size, the instruction raises the exception with ECODE 2 and EADDR the effective address, whatever the
platform allows; no register and no byte of memory is written otherwise. The byte accesses never meet it: the memory
primitives raise it for no access of size 1. (Choices of the specification, not of the source: that the alignment is checked
before the permission is D16 (log entry 16); what the entry saves and where it goes (all of PC in EPC, EADDR as it was without
a bad address, the low bits of EBASE dropped) is D17 (log entry 17); that a raising instruction does nothing else is D25 (log
entry 25).) Rests on: 20_memory.md sections 3 and 4 (R65, R66, R69); 41_load_store.md section 1 (R183); 60_exceptions.md
sections 1 and 2 (R451, R455 to R457); 92_eei_decisions.md D16, D17, D25; notes/assumptions 16, 17 and 25. -/
def Obligations.MisalignedAccessesTrap : Prop :=
  (∀ p ∈ ([(Instr.lhu, 2), (Instr.lwu, 4), (Instr.ldu, 8), (Instr.lh, 2), (Instr.lw, 4), (Instr.ld, 8), (Instr.sh, 2), (Instr.sw, 4), (Instr.sd, 8)] :
      List ((Reg → Reg → BitVec 12 → Instr) × Nat)),
    ∀ (s : State) (a b : Reg) (imm : BitVec 12), (s.readX a + imm.signExtend 64).toNat % p.2 ≠ 0 →
      Completes (p.1 a b imm) s (Raised s 2 (some (s.readX a + imm.signExtend 64)))) ∧
  (∀ p ∈ ([(Instr.lhuX, 2), (Instr.lwuX, 4), (Instr.lduX, 8), (Instr.lhX, 2), (Instr.lwX, 4), (Instr.ldX, 8), (Instr.shX, 2), (Instr.swX, 4), (Instr.sdX, 8)] :
      List ((Reg → Reg → Nat → Reg → Instr) × Nat)),
    ∀ (s : State) (a b c : Reg) (sc : Nat), sc < 4 → (s.readX a + s.readX b <<< sc).toNat % p.2 ≠ 0 →
      Completes (p.1 a b sc c) s (Raised s 2 (some (s.readX a + s.readX b <<< sc)))) ∧
  (∀ (s : State) (addr : Word) (n : Nat), n ∈ [2, 4, 8] → addr.toNat % n ≠ 0 →
    s.memRead addr n = .trap (.misaligned addr) ∧ ∀ v, s.memWrite addr n v = .trap (.misaligned addr)) ∧
  (∀ (s : State) (addr : Word), s.memRead addr 1 ≠ .trap (.misaligned addr) ∧
    ∀ v, s.memWrite addr 1 v ≠ .trap (.misaligned addr))

/-- For every load and store, with a displacement and with a scaled index: when the effective address is a multiple of the
size and the platform refuses the access, the instruction raises the exception with ECODE 4 (loads) or 5 (stores) and EADDR
the effective address, and does nothing else. (Choices of the specification, not of the source: that the alignment is checked
before the permission is D16 (log entry 16); that the platform decides by access_ok is D21 (log entry 21); what the entry
saves and where it goes (all of PC in EPC, EADDR as it was without a bad address, the low bits of EBASE dropped) is D17 (log
entry 17); that a raising instruction does nothing else is D25 (log entry 25).) Rests on: 20_memory.md section 4 (R69, R70);
41_load_store.md section 1 (R183); 60_exceptions.md sections 1 to 3 (R454 to R457, R460); 92_eei_decisions.md D16, D17, D21,
D25; notes/assumptions 16, 17, 21 and 25. -/
def Obligations.RefusedAccessesTrap : Prop :=
  (∀ p ∈ ([(Instr.lbu, 1), (Instr.lhu, 2), (Instr.lwu, 4), (Instr.ldu, 8), (Instr.lb, 1), (Instr.lh, 2), (Instr.lw, 4), (Instr.ld, 8)] : List ((Reg → Reg → BitVec 12 → Instr) × Nat)),
    ∀ (s : State) (a b : Reg) (imm : BitVec 12), (s.readX a + imm.signExtend 64).toNat % p.2 = 0 →
      s.accessOk .load (s.readX a + imm.signExtend 64) p.2 = false → Completes (p.1 a b imm) s (Raised s 4 (some (s.readX a + imm.signExtend 64)))) ∧
  (∀ p ∈ ([(Instr.lbuX, 1), (Instr.lhuX, 2), (Instr.lwuX, 4), (Instr.lduX, 8), (Instr.lbX, 1), (Instr.lhX, 2), (Instr.lwX, 4), (Instr.ldX, 8)] : List ((Reg → Reg → Nat → Reg → Instr) × Nat)),
    ∀ (s : State) (a b d : Reg) (sc : Nat), sc < 4 → (s.readX a + s.readX b <<< sc).toNat % p.2 = 0 →
      s.accessOk .load (s.readX a + s.readX b <<< sc) p.2 = false →
      Completes (p.1 a b sc d) s (Raised s 4 (some (s.readX a + s.readX b <<< sc)))) ∧
  (∀ p ∈ ([(Instr.sb, 1), (Instr.sh, 2), (Instr.sw, 4), (Instr.sd, 8)] : List ((Reg → Reg → BitVec 12 → Instr) × Nat)),
    ∀ (s : State) (a b : Reg) (imm : BitVec 12), (s.readX a + imm.signExtend 64).toNat % p.2 = 0 →
      s.accessOk .store (s.readX a + imm.signExtend 64) p.2 = false → Completes (p.1 a b imm) s (Raised s 5 (some (s.readX a + imm.signExtend 64)))) ∧
  (∀ p ∈ ([(Instr.sbX, 1), (Instr.shX, 2), (Instr.swX, 4), (Instr.sdX, 8)] : List ((Reg → Reg → Nat → Reg → Instr) × Nat)),
    ∀ (s : State) (a b c : Reg) (sc : Nat), sc < 4 → (s.readX a + s.readX b <<< sc).toNat % p.2 = 0 →
      s.accessOk .store (s.readX a + s.readX b <<< sc) p.2 = false →
      Completes (p.1 a b sc c) s (Raised s 5 (some (s.readX a + s.readX b <<< sc))))

/-- For every load, with a displacement and with a scaled index: when the access is aligned and allowed and one of its bytes
has no value, the instruction answers the fault noValue with the effective address. (A choice of the specification, not of the
source: that the model stops at a byte nothing has written is D19 (log entry 41).) Where an address reaches memory its bits at
or above ADDR_BITS are dropped: the model says so, as R25 asks of a model with fewer than 64, and D6 leaves it open (log entry
6). Rests on: 70_reset_and_hazards.md section 1 (R501); 20_memory.md section 4 (R69); 10_state.md section 2 (R25);
92_eei_decisions.md D6, D19; notes/assumptions 6 and 41. -/
def Obligations.LoadsOfUnwrittenBytesFault : Prop :=
  (∀ p ∈ ([(Instr.lbu, 1), (Instr.lhu, 2), (Instr.lwu, 4), (Instr.ldu, 8), (Instr.lb, 1), (Instr.lh, 2), (Instr.lw, 4), (Instr.ld, 8)] : List ((Reg → Reg → BitVec 12 → Instr) × Nat)),
    ∀ (s : State) (a b : Reg) (imm : BitVec 12), (s.readX a + imm.signExtend 64).toNat % p.2 = 0 →
      s.accessOk .load (s.readX a + imm.signExtend 64) p.2 = true → LacksByte s (s.readX a + imm.signExtend 64) p.2 →
      exec (p.1 a b imm) s = .fault (.noValue (s.readX a + imm.signExtend 64))) ∧
  (∀ p ∈ ([(Instr.lbuX, 1), (Instr.lhuX, 2), (Instr.lwuX, 4), (Instr.lduX, 8), (Instr.lbX, 1), (Instr.lhX, 2), (Instr.lwX, 4), (Instr.ldX, 8)] : List ((Reg → Reg → Nat → Reg → Instr) × Nat)),
    ∀ (s : State) (a b d : Reg) (sc : Nat), sc < 4 → (s.readX a + s.readX b <<< sc).toNat % p.2 = 0 →
      s.accessOk .load (s.readX a + s.readX b <<< sc) p.2 = true → LacksByte s (s.readX a + s.readX b <<< sc) p.2 →
      exec (p.1 a b sc d) s = .fault (.noValue (s.readX a + s.readX b <<< sc)))

/-- In every state each of the eight instructions writes register d with its function of the values that registers a and b
held before (N negates and C complements the first), modulo 2^64 and without any exception; nothing else changes, and the next
instruction follows. The R-format words with opcode number 40, x = 0 and f = 0 to 7 decode to them in this order. Rests on:
R225; R226; R227; R228; R229; R230; R231; R232. -/
def Obligations.TwoRegisterArithmetic : Prop :=
  ∀ (nop : Config.NopCode) (s : State) (a b d : Reg),
    decode nop (formatR 40 0 0 a b 0 d) = .ok (.add a b d) ∧
    decode nop (formatR 40 1 0 a b 0 d) = .ok (.nadd a b d) ∧
    decode nop (formatR 40 2 0 a b 0 d) = .ok (.and a b d) ∧
    decode nop (formatR 40 3 0 a b 0 d) = .ok (.cand a b d) ∧
    decode nop (formatR 40 4 0 a b 0 d) = .ok (.or a b d) ∧
    decode nop (formatR 40 5 0 a b 0 d) = .ok (.cor a b d) ∧
    decode nop (formatR 40 6 0 a b 0 d) = .ok (.xor a b d) ∧
    decode nop (formatR 40 7 0 a b 0 d) = .ok (.xnor a b d) ∧
    Completes (.add a b d) s (ResultAt s d (s.readX a + s.readX b)) ∧
    Completes (.nadd a b d) s (ResultAt s d (s.readX b - s.readX a)) ∧
    Completes (.and a b d) s (ResultAt s d (s.readX a &&& s.readX b)) ∧
    Completes (.cand a b d) s (ResultAt s d (~~~(s.readX a) &&& s.readX b)) ∧
    Completes (.or a b d) s (ResultAt s d (s.readX a ||| s.readX b)) ∧
    Completes (.cor a b d) s (ResultAt s d (~~~(s.readX a) ||| s.readX b)) ∧
    Completes (.xor a b d) s (ResultAt s d (s.readX a ^^^ s.readX b)) ∧
    Completes (.xnor a b d) s (ResultAt s d (~~~(s.readX a ^^^ s.readX b)))

/-- In every state each of the six instructions writes register d with 1 when its comparison of the values of registers a and
b holds and with 0 when it does not: the bits for EQ and NE, the signed numbers for LT and GE, the unsigned numbers for LTU
and GEU; nothing else changes, no exception is raised, and the next instruction follows. The R-format words with opcode number
40, x = 0 and f = 8 to 13 decode to them in this order. Rests on: R233; R234; R235; R236; R237; R238. -/
def Obligations.TwoRegisterCompares : Prop :=
  ∀ (nop : Config.NopCode) (s : State) (a b d : Reg),
    decode nop (formatR 40 8 0 a b 0 d) = .ok (.eq a b d) ∧
    decode nop (formatR 40 9 0 a b 0 d) = .ok (.ne a b d) ∧
    decode nop (formatR 40 10 0 a b 0 d) = .ok (.lt a b d) ∧
    decode nop (formatR 40 11 0 a b 0 d) = .ok (.ge a b d) ∧
    decode nop (formatR 40 12 0 a b 0 d) = .ok (.ltu a b d) ∧
    decode nop (formatR 40 13 0 a b 0 d) = .ok (.geu a b d) ∧
    Completes (.eq a b d) s (ResultAt s d (if s.readX a = s.readX b then 1 else 0)) ∧
    Completes (.ne a b d) s (ResultAt s d (if s.readX a ≠ s.readX b then 1 else 0)) ∧
    Completes (.lt a b d) s (ResultAt s d (if (s.readX a).slt (s.readX b) then 1 else 0)) ∧
    Completes (.ge a b d) s (ResultAt s d (if (s.readX b).sle (s.readX a) then 1 else 0)) ∧
    Completes (.ltu a b d) s (ResultAt s d (if s.readX a < s.readX b then 1 else 0)) ∧
    Completes (.geu a b d) s (ResultAt s d (if s.readX b ≤ s.readX a then 1 else 0))

/-- In every state MIN and MAX write register d with the lesser and the greater of two signed values; MINU, MAXU, MIN and MAX
with three sources write it with one of the three values, which no other of them is below or above as unsigned or signed
numbers. Nothing else changes, and the next instruction follows. (Choices of the specification, not of the source: that MIN
and MAX are signed is D8 (log entry 8); that all three sources take part is D11 (log entry 11).) Rests on: 42_integer.md
section 2 (R223, R239, R240); 43_three_operand.md section 3 (R324 to R327); 92_eei_decisions.md D8, D11; notes/assumptions 8
and 11. -/
def Obligations.MinimaAndMaxima : Prop :=
  ∀ (s : State) (a b c d : Reg),
    Completes (.min a b d) s (ResultAt s d (if (s.readX a).sle (s.readX b) then s.readX a else s.readX b)) ∧
    Completes (.max a b d) s (ResultAt s d (if (s.readX a).sle (s.readX b) then s.readX b else s.readX a)) ∧
    (∃ v ∈ [s.readX a, s.readX b, s.readX c], (∀ x ∈ [s.readX a, s.readX b, s.readX c], v ≤ x) ∧ Completes (.minu3 a b c d) s (ResultAt s d v)) ∧
    (∃ v ∈ [s.readX a, s.readX b, s.readX c], (∀ x ∈ [s.readX a, s.readX b, s.readX c], x ≤ v) ∧ Completes (.maxu3 a b c d) s (ResultAt s d v)) ∧
    (∃ v ∈ [s.readX a, s.readX b, s.readX c], (∀ x ∈ [s.readX a, s.readX b, s.readX c], v.toInt ≤ x.toInt) ∧
      Completes (.min3 a b c d) s (ResultAt s d v)) ∧
    (∃ v ∈ [s.readX a, s.readX b, s.readX c], (∀ x ∈ [s.readX a, s.readX b, s.readX c], x.toInt ≤ v.toInt) ∧
      Completes (.max3 a b c d) s (ResultAt s d v))

/-- In every state each of the sixteen ALUI instructions writes register b with its function (ADD, NADD, AND, CAND, OR, COR,
XOR, SET, EQ, NE, LT, GE, LTU, GEU, MIN, MAX) of the value of register a and the sign-extended Imm12; nothing else changes,
and the next instruction follows. (A choice of the specification, not of the source: that MIN and MAX are signed is D8 (log
entry 8).) Rests on: 42_integer.md sections 3 and 4 (R241 to R255, R286, R257); 30_encoding.md section 3 (R105);
92_eei_decisions.md D8; notes/assumptions 8. -/
def Obligations.ImmediateFunctionsComplete : Prop :=
  ∀ p ∈ (List.zip [Instr.addI, Instr.naddI, Instr.andI, Instr.candI, Instr.orI, Instr.corI, Instr.xorI, Instr.setI, Instr.eqI, Instr.neI, Instr.ltI, Instr.geI, Instr.ltuI, Instr.geuI, Instr.minI, Instr.maxI] immediateFunctions :
      List ((Reg → Reg → BitVec 12 → Instr) × (Word → Word → Word))),
    ∀ (s : State) (a b : Reg) (imm : BitVec 12),
      Completes (p.1 a b imm) s (ResultAt s b (p.2 (s.readX a) (imm.signExtend 64)))

/-- When the word at pc + 4 can be fetched and is a NOP that carries Imm26A (for ALUI3 also the word at pc + 8 and Imm26B),
each of the sixteen ALUI1, ALUI2 and ALUI3 instructions writes register b with its function of the value of register a and the
long immediate: the 38-bit signed value Imm26A : Imm12 for ALUI1, Imm26A : 26 zero bits : Imm12 for ALUI2, Imm26A : Imm26B :
Imm12 for ALUI3. Nothing else changes, and execution goes on at pc + 4, at the first NOP. (Choices of the specification, not
of the source: that MIN and MAX are signed is D8 (log entry 8); that the extension words are fetched with their instruction,
that their exceptions are reported for it and that execution goes on at them is D13 (log entry 13).) Where an address reaches
memory its bits at or above ADDR_BITS are dropped: the model says so, as R25 asks of a model with fewer than 64, and D6 leaves
it open (log entry 6). Rests on: 42_integer.md section 5 (R256, R259 to R261); 42_integer.md section 3 (R241 to R255, R286);
30_encoding.md section 3 (R107); 10_state.md section 2 (R25); 92_eei_decisions.md D6, D8, D13; notes/assumptions 6, 8 and 13.
-/
def Obligations.LongImmediatesComplete : Prop :=
  (∀ p ∈ (List.zip [Instr.addI1, Instr.naddI1, Instr.andI1, Instr.candI1, Instr.orI1, Instr.corI1, Instr.xorI1, Instr.setI1, Instr.eqI1, Instr.neI1, Instr.ltI1, Instr.geI1, Instr.ltuI1, Instr.geuI1, Instr.minI1, Instr.maxI1] immediateFunctions :
      List ((Reg → Reg → BitVec 12 → Instr) × (Word → Word → Word))),
    ∀ (s : State) (a b : Reg) (imm : BitVec 12) (x : BitVec 26), NopReady s (s.pcByte + 4) x →
      Completes (p.1 a b imm) s (ResultAt s b (p.2 (s.readX a) ((x ++ imm).signExtend 64)))) ∧
  (∀ p ∈ (List.zip [Instr.addI2, Instr.naddI2, Instr.andI2, Instr.candI2, Instr.orI2, Instr.corI2, Instr.xorI2, Instr.setI2, Instr.eqI2, Instr.neI2, Instr.ltI2, Instr.geI2, Instr.ltuI2, Instr.geuI2, Instr.minI2, Instr.maxI2] immediateFunctions :
      List ((Reg → Reg → BitVec 12 → Instr) × (Word → Word → Word))),
    ∀ (s : State) (a b : Reg) (imm : BitVec 12) (x : BitVec 26), NopReady s (s.pcByte + 4) x →
      Completes (p.1 a b imm) s (ResultAt s b (p.2 (s.readX a) (x ++ (0 : BitVec 26) ++ imm)))) ∧
  (∀ p ∈ (List.zip [Instr.addI3, Instr.naddI3, Instr.andI3, Instr.candI3, Instr.orI3, Instr.corI3, Instr.xorI3, Instr.setI3, Instr.eqI3, Instr.neI3, Instr.ltI3, Instr.geI3, Instr.ltuI3, Instr.geuI3, Instr.minI3, Instr.maxI3] immediateFunctions :
      List ((Reg → Reg → BitVec 12 → Instr) × (Word → Word → Word))),
    ∀ (s : State) (a b : Reg) (imm : BitVec 12) (x y : BitVec 26), NopReady s (s.pcByte + 4) x → NopReady s (s.pcByte + 8) y →
      Completes (p.1 a b imm) s (ResultAt s b (p.2 (s.readX a) (x ++ y ++ imm))))

/-- For each of the 48 long-immediate instructions: when the platform refuses the fetch at pc + 4, it raises IllegalFetch with
EADDR that address; when the word there is no NOP, InvalidInstruction; when a byte of it has no value, the model fault of
R501. For ALUI3, once the first word is a NOP, the same holds of pc + 8. EPC is the pc of the instruction itself and no
register is written otherwise. (Choices of the specification, not of the source: that the extension words are fetched with
their instruction, that their exceptions are reported for it and that execution goes on at them is D13 (log entry 13); the
order of the two words and of the checks is D16 (log entry 16); what the entry saves and where it goes (all of PC in EPC,
EADDR as it was without a bad address, the low bits of EBASE dropped) is D17 (log entry 17); that a raising instruction does
nothing else is D25 (log entry 25); that the model stops at a byte nothing has written is D19 (log entry 41).) Where an
address reaches memory its bits at or above ADDR_BITS are dropped: the model says so, as R25 asks of a model with fewer than
64, and D6 leaves it open (log entry 6). Rests on: 42_integer.md section 5 (R256, R261); 30_encoding.md section 5 (R122);
60_exceptions.md sections 1 to 3 (R452, R454 to R457, R460, R470); 70_reset_and_hazards.md section 1 (R501); 10_state.md
section 2 (R25); 92_eei_decisions.md D6, D13, D16, D17, D19, D25; notes/assumptions 6, 13, 16, 17, 25 and 41. -/
def Obligations.MissingExtensionWordsTrap : Prop :=
  (∀ c ∈ ([Instr.addI1, Instr.naddI1, Instr.andI1, Instr.candI1, Instr.orI1, Instr.corI1, Instr.xorI1, Instr.setI1, Instr.eqI1, Instr.neI1, Instr.ltI1, Instr.geI1, Instr.ltuI1, Instr.geuI1, Instr.minI1, Instr.maxI1] ++
      [Instr.addI2, Instr.naddI2, Instr.andI2, Instr.candI2, Instr.orI2, Instr.corI2, Instr.xorI2, Instr.setI2, Instr.eqI2, Instr.neI2, Instr.ltI2, Instr.geI2, Instr.ltuI2, Instr.geuI2, Instr.minI2, Instr.maxI2] ++
      [Instr.addI3, Instr.naddI3, Instr.andI3, Instr.candI3, Instr.orI3, Instr.corI3, Instr.xorI3, Instr.setI3, Instr.eqI3, Instr.neI3, Instr.ltI3, Instr.geI3, Instr.ltuI3, Instr.geuI3, Instr.minI3, Instr.maxI3] :
      List (Reg → Reg → BitVec 12 → Instr)), ∀ (s : State) (a b : Reg) (imm : BitVec 12),
    (s.accessOk .fetch (s.pcByte + 4) 4 = false → Completes (c a b imm) s (Raised s 3 (some (s.pcByte + 4)))) ∧
    (∀ w, FetchReady s (s.pcByte + 4) w → w.extractLsb' 26 6 ≠ s.nopCode.code → Completes (c a b imm) s (Raised s 0 none)) ∧
    (s.accessOk .fetch (s.pcByte + 4) 4 = true → LacksByte s (s.pcByte + 4) 4 →
      exec (c a b imm) s = .fault (.noValue (s.pcByte + 4)))) ∧
  (∀ c ∈ ([Instr.addI3, Instr.naddI3, Instr.andI3, Instr.candI3, Instr.orI3, Instr.corI3, Instr.xorI3, Instr.setI3, Instr.eqI3, Instr.neI3, Instr.ltI3, Instr.geI3, Instr.ltuI3, Instr.geuI3, Instr.minI3, Instr.maxI3] :
      List (Reg → Reg → BitVec 12 → Instr)), ∀ (s : State) (a b : Reg) (imm : BitVec 12) (x : BitVec 26),
    NopReady s (s.pcByte + 4) x →
    (s.accessOk .fetch (s.pcByte + 8) 4 = false → Completes (c a b imm) s (Raised s 3 (some (s.pcByte + 8)))) ∧
    (∀ w, FetchReady s (s.pcByte + 8) w → w.extractLsb' 26 6 ≠ s.nopCode.code → Completes (c a b imm) s (Raised s 0 none)) ∧
    (s.accessOk .fetch (s.pcByte + 8) 4 = true → LacksByte s (s.pcByte + 8) 4 →
      exec (c a b imm) s = .fault (.noValue (s.pcByte + 8))))

/-- In every state each of the sixteen RET instructions writes register b with its function of the value of register a and the
sign-extended Imm12, and goes to the address that register 31 held before, its two low bits cleared, also when a or b is 31;
the level stays and nothing else changes. (Choices of the specification, not of the source: that MIN and MAX are signed is D8
(log entry 8); that the return address is read before register b is written is D12 (log entry 12).) Rests on: 42_integer.md
section 6 (R262); 42_integer.md section 3 (R241 to R255, R286); 92_eei_decisions.md D8, D12; notes/assumptions 8 and 12. -/
def Obligations.ReturnsComplete : Prop :=
  ∀ p ∈ (List.zip [Instr.retAdd, Instr.retNadd, Instr.retAnd, Instr.retCand, Instr.retOr, Instr.retCor, Instr.retXor, Instr.retSet, Instr.retEq, Instr.retNe, Instr.retLt, Instr.retGe, Instr.retLtu, Instr.retGeu, Instr.retMin, Instr.retMax]
      immediateFunctions : List ((Reg → Reg → BitVec 12 → Instr) × (Word → Word → Word))),
    ∀ (s : State) (a b : Reg) (imm : BitVec 12), Completes (p.1 a b imm) s fun t =>
      WroteAndWent s t b (p.2 (s.readX a) (imm.signExtend 64)) (s.readX 31 &&& ~~~3)

/-- In every state and for every Imm26 a NOP changes no register, no byte of memory and no exception register; the next
instruction follows. Rests on: 42_integer.md section 5 (R258); 92_eei_decisions.md D2. -/
def Obligations.NopDoesNothing : Prop :=
  ∀ (s : State) (imm : BitVec 26), Completes (.nop imm) s fun t => OnlyWent s t (s.pcByte + 4)

/-- In every state SHLR (both codes) writes register b with the value of register a shifted left by l and then right by r,
SALR with the same and an arithmetic right shift, ROR with an immediate with the value rotated right by r; SHL, SHR, SAR and
ROR write register d with the value of register a shifted or rotated by the low six bits of register b. Nothing else changes,
and the next instruction follows. (A choice of the specification, not of the source: that SHIFT with f = 1 is SHLR and that
ROR ignores l is D31 (log entry 31).) Rests on: 42_integer.md section 7 (R264 to R267); 42_integer.md section 8 (R274 to
R277); 92_eei_decisions.md D31; notes/assumptions 31. -/
def Obligations.ShiftsComplete : Prop :=
  ∀ (s : State) (a b d : Reg) (l r : Nat), l < 64 → r < 64 →
    Completes (.shlr a b l r) s (ResultAt s b ((s.readX a <<< l) >>> r)) ∧
    Completes (.shlr1 a b l r) s (ResultAt s b ((s.readX a <<< l) >>> r)) ∧
    Completes (.salr a b l r) s (ResultAt s b ((s.readX a <<< l).sshiftRight r)) ∧
    Completes (.rorI a b r) s (ResultAt s b ((s.readX a).rotateRight r)) ∧
    Completes (.shl a b d) s (ResultAt s d (s.readX a <<< ((s.readX b).toNat % 64))) ∧
    Completes (.shr a b d) s (ResultAt s d (s.readX a >>> ((s.readX b).toNat % 64))) ∧
    Completes (.sar a b d) s (ResultAt s d ((s.readX a).sshiftRight ((s.readX b).toNat % 64))) ∧
    Completes (.ror a b d) s (ResultAt s d ((s.readX a).rotateRight ((s.readX b).toNat % 64)))

/-- In every state MUL writes the low 64 bits of the product of register a and register b or the sign-extended Imm12; ADDS and
NADDS write the value of register a, or its negation, plus the value of register b shifted left by n. Nothing else changes,
and the next instruction follows. Rests on: 42_integer.md section 7 (R268); 42_integer.md sections 8 and 9 (R278, R283, R284).
-/
def Obligations.MultiplyAndAddShifted : Prop :=
  ∀ (s : State) (a b d : Reg) (imm : BitVec 12) (n : Nat), n < 16 →
    Completes (.mul a b d) s (ResultAt s d (s.readX a * s.readX b)) ∧
    Completes (.mulI a b imm) s (ResultAt s b (s.readX a * imm.signExtend 64)) ∧
    Completes (.adds a b n d) s (ResultAt s d (s.readX a + s.readX b <<< n)) ∧
    Completes (.nadds a b n d) s (ResultAt s d (-(s.readX a) + s.readX b <<< n))

/-- For a divisor that is not 0 (and, for DIV and MOD, outside -2^63 divided by -1): DIV and MOD write the signed quotient
rounded toward zero and the remainder with the sign of the dividend, DIVU and MODU the unsigned quotient and remainder, of
register a and register b or the sign-extended Imm12. Nothing else changes, and the next instruction follows. (A choice of the
specification, not of the source: that the signed quotient is rounded toward zero and the remainder has the sign of the
dividend (the source names neither) is D7 (log entry 7).) Rests on: 42_integer.md section 7 (R269 to R273); 42_integer.md
section 8 (R279 to R282); 92_eei_decisions.md D7; notes/assumptions 7. -/
def Obligations.DivisionsComplete : Prop :=
  ∀ (s : State) (a b d : Reg) (imm : BitVec 12),
    (s.readX b ≠ 0 → ¬(s.readX a = BitVec.intMin 64 ∧ s.readX b = -1) →
      Completes (.div a b d) s (ResultAt s d ((s.readX a).sdiv (s.readX b))) ∧
      Completes (.mod a b d) s (ResultAt s d ((s.readX a).srem (s.readX b)))) ∧
    (s.readX b ≠ 0 →
      Completes (.divu a b d) s (ResultAt s d (s.readX a / s.readX b)) ∧ Completes (.modu a b d) s (ResultAt s d (s.readX a % s.readX b))) ∧
    (imm.signExtend 64 ≠ 0 → ¬(s.readX a = BitVec.intMin 64 ∧ imm.signExtend 64 = -1) →
      Completes (.divI a b imm) s (ResultAt s b ((s.readX a).sdiv (imm.signExtend 64))) ∧
      Completes (.modI a b imm) s (ResultAt s b ((s.readX a).srem (imm.signExtend 64)))) ∧
    (imm.signExtend 64 ≠ (0 : Word) →
      Completes (.divuI a b imm) s (ResultAt s b (s.readX a / imm.signExtend 64)) ∧
      Completes (.moduI a b imm) s (ResultAt s b (s.readX a % imm.signExtend 64)))

/-- For a divisor 0, and for DIV and MOD of -2^63 by -1, each of the eight division instructions writes its destination with
the open value div_corner of the operation and the operands, raises no exception and changes nothing else. Nothing is known of
that value. (A choice of the specification, not of the source: that these divisions raise nothing and leave an open value is
D7 (log entry 7).) Rests on: 42_integer.md section 7 (R269); 92_eei_decisions.md D7; notes/assumptions 7. -/
def Obligations.OpenDivisionsComplete : Prop :=
  ∀ (s : State) (a b d : Reg) (imm : BitVec 12),
    (s.readX b = 0 ∨ s.readX a = BitVec.intMin 64 ∧ s.readX b = -1 →
      Completes (.div a b d) s (ResultAt s d (Config.divCorner .div (s.readX a) (s.readX b))) ∧
      Completes (.mod a b d) s (ResultAt s d (Config.divCorner .mod (s.readX a) (s.readX b)))) ∧
    (s.readX b = 0 →
      Completes (.divu a b d) s (ResultAt s d (Config.divCorner .divu (s.readX a) (s.readX b))) ∧
      Completes (.modu a b d) s (ResultAt s d (Config.divCorner .modu (s.readX a) (s.readX b)))) ∧
    (imm.signExtend 64 = (0 : Word) ∨ s.readX a = BitVec.intMin 64 ∧ imm.signExtend 64 = (-1 : Word) →
      Completes (.divI a b imm) s (ResultAt s b (Config.divCorner .div (s.readX a) (imm.signExtend 64))) ∧
      Completes (.modI a b imm) s (ResultAt s b (Config.divCorner .mod (s.readX a) (imm.signExtend 64)))) ∧
    (imm.signExtend 64 = (0 : Word) →
      Completes (.divuI a b imm) s (ResultAt s b (Config.divCorner .divu (s.readX a) (imm.signExtend 64))) ∧
      Completes (.moduI a b imm) s (ResultAt s b (Config.divCorner .modu (s.readX a) (imm.signExtend 64))))

/-- In every state each of the eight instructions writes register d with its function of the values of registers a, b and c,
the first negated by N and complemented by C; nothing else changes, and the next instruction follows. (A choice of the
specification, not of the source: that the functions but ADD are g(a) op b op c is D10 (log entry 10).) Rests on:
43_three_operand.md section 2 (R304 to R311); 92_eei_decisions.md D10; notes/assumptions 10. -/
def Obligations.ThreeRegisterLogic : Prop :=
  ∀ (s : State) (a b c d : Reg),
    Completes (.add3 a b c d) s (ResultAt s d (s.readX a + s.readX b + s.readX c)) ∧
    Completes (.nadd3 a b c d) s (ResultAt s d (-(s.readX a) + s.readX b + s.readX c)) ∧
    Completes (.and3 a b c d) s (ResultAt s d (s.readX a &&& s.readX b &&& s.readX c)) ∧
    Completes (.cand3 a b c d) s (ResultAt s d (~~~(s.readX a) &&& s.readX b &&& s.readX c)) ∧
    Completes (.or3 a b c d) s (ResultAt s d (s.readX a ||| s.readX b ||| s.readX c)) ∧
    Completes (.cor3 a b c d) s (ResultAt s d (~~~(s.readX a) ||| s.readX b ||| s.readX c)) ∧
    Completes (.xor3 a b c d) s (ResultAt s d (s.readX a ^^^ s.readX b ^^^ s.readX c)) ∧
    Completes (.xnor3 a b c d) s (ResultAt s d (~~~(s.readX a ^^^ s.readX b ^^^ s.readX c)))

/-- In every state each of the twelve instructions writes register d with 1 or 0: ANDcc with 1 when register a is not zero and
the comparison of registers b and c holds, ORcc with 1 when register a is not zero or it holds; nothing else changes, and the
next instruction follows. (A choice of the specification, not of the source: that register a counts as true when it is not
zero is D9 (log entry 9).) Rests on: 43_three_operand.md section 3 (R312 to R323); 92_eei_decisions.md D9; notes/assumptions
9. -/
def Obligations.ComparesWithAndOr : Prop :=
  ∀ (s : State) (a b c d : Reg),
    Completes (.andeq a b c d) s (ResultAt s d (if s.readX a ≠ 0 ∧ s.readX b = s.readX c then 1 else 0)) ∧
    Completes (.andne a b c d) s (ResultAt s d (if s.readX a ≠ 0 ∧ s.readX b ≠ s.readX c then 1 else 0)) ∧
    Completes (.andlt a b c d) s (ResultAt s d (if s.readX a ≠ 0 ∧ (s.readX b).slt (s.readX c) then 1 else 0)) ∧
    Completes (.andge a b c d) s (ResultAt s d (if s.readX a ≠ 0 ∧ (s.readX c).sle (s.readX b) then 1 else 0)) ∧
    Completes (.andltu a b c d) s (ResultAt s d (if s.readX a ≠ 0 ∧ s.readX b < s.readX c then 1 else 0)) ∧
    Completes (.andgeu a b c d) s (ResultAt s d (if s.readX a ≠ 0 ∧ s.readX c ≤ s.readX b then 1 else 0)) ∧
    Completes (.oreq a b c d) s (ResultAt s d (if s.readX a ≠ 0 ∨ s.readX b = s.readX c then 1 else 0)) ∧
    Completes (.orne a b c d) s (ResultAt s d (if s.readX a ≠ 0 ∨ s.readX b ≠ s.readX c then 1 else 0)) ∧
    Completes (.orlt a b c d) s (ResultAt s d (if s.readX a ≠ 0 ∨ (s.readX b).slt (s.readX c) then 1 else 0)) ∧
    Completes (.orge a b c d) s (ResultAt s d (if s.readX a ≠ 0 ∨ (s.readX c).sle (s.readX b) then 1 else 0)) ∧
    Completes (.orltu a b c d) s (ResultAt s d (if s.readX a ≠ 0 ∨ s.readX b < s.readX c then 1 else 0)) ∧
    Completes (.orgeu a b c d) s (ResultAt s d (if s.readX a ≠ 0 ∨ s.readX c ≤ s.readX b then 1 else 0))

/-- In every state SEL, SELN and SELP write register d with the value of register b when register a is not zero, negative, or
positive as a signed number, and with the value of register c otherwise; nothing else changes, and the next instruction
follows. SELN chooses by bit 63 alone, SELP by bit 63 being 0 and the value not zero. The R-format words with opcode number
41, x = 2 and f = 0, 1 and 2 decode to them. Rests on: R330; R331; R332. -/
def Obligations.SelectsComplete : Prop :=
  ∀ (nop : Config.NopCode) (s : State) (a b c d : Reg),
    decode nop (formatR 41 0 2 a b c d) = .ok (.sel a b c d) ∧ decode nop (formatR 41 1 2 a b c d) = .ok (.seln a b c d) ∧
    decode nop (formatR 41 2 2 a b c d) = .ok (.selp a b c d) ∧
    Completes (.sel a b c d) s (ResultAt s d (if s.readX a ≠ 0 then s.readX b else s.readX c)) ∧
    Completes (.seln a b c d) s (ResultAt s d (if (s.readX a).toInt < 0 then s.readX b else s.readX c)) ∧
    Completes (.selp a b c d) s (ResultAt s d (if 0 < (s.readX a).toInt then s.readX b else s.readX c)) ∧
    Completes (.seln a b c d) s (ResultAt s d (if (s.readX a).getLsbD 63 then s.readX b else s.readX c)) ∧
    Completes (.selp a b c d) s (ResultAt s d (if (s.readX a).getLsbD 63 = false ∧ s.readX a ≠ 0 then s.readX b else s.readX c))

/-- In every state MADD writes register d with the low 64 bits of the product of the signed values of registers a and b plus
that of register c, NMADD with the low 64 bits of the value of register c minus the product; nothing else changes, no
exception is raised, and the next instruction follows. The R-format words with opcode number 41, x = 2 and f = 4 and 5 decode
to them. Rests on: R334; R335. -/
def Obligations.MultiplyAddsComplete : Prop :=
  ∀ (nop : Config.NopCode) (s : State) (a b c d : Reg),
    decode nop (formatR 41 4 2 a b c d) = .ok (.madd a b c d) ∧ decode nop (formatR 41 5 2 a b c d) = .ok (.nmadd a b c d) ∧
    Completes (.madd a b c d) s (ResultAt s d (BitVec.ofInt 64 ((s.readX a).toInt * (s.readX b).toInt + (s.readX c).toInt))) ∧
    Completes (.nmadd a b c d) s (ResultAt s d (BitVec.ofInt 64 ((s.readX c).toInt - (s.readX a).toInt * (s.readX b).toInt)))

/-- In every state, whatever record fp the machine has, each of the fourteen instructions writes register d with its function
of that record applied to register a, raises no exception and changes nothing else. A single-precision source is the low 32
bits of its register, a single-precision result is zero-extended. In every IEEE instance, the default one among them, ABS
clears and NEG flips the sign bit of every operand. What the other functions of the default instance compute is stated of the
numbers in the statements on rounding. (Choices of the specification, not of the source: that fp is a record of functions is
D22 (log entry 22); that integers are 64-bit signed and CVTI rounds by the mode of fp is D23 (log entry 23); that ABS and NEG
work on the sign bit alone is D37 (log entry 37).) Rests on: 44_floating_point.md sections 1 and 2 (R351, R352, R355, R356,
R357, R360 to R373); 92_eei_decisions.md D22, D23, D37; notes/assumptions 22, 23 and 37. -/
def Obligations.FloatOneSource : Prop :=
  (∀ (s : State) (a d : Reg),
    Completes (.absS a d) s (ResultAt s d (BitVec.setWidth 64 (s.fp.single.abs ((s.readX a).setWidth 32)))) ∧
    Completes (.absD a d) s (ResultAt s d (s.fp.double.abs (s.readX a))) ∧
    Completes (.negS a d) s (ResultAt s d (BitVec.setWidth 64 (s.fp.single.neg ((s.readX a).setWidth 32)))) ∧
    Completes (.negD a d) s (ResultAt s d (s.fp.double.neg (s.readX a))) ∧
    Completes (.sqrtS a d) s (ResultAt s d (BitVec.setWidth 64 (s.fp.single.sqrt ((s.readX a).setWidth 32)))) ∧
    Completes (.sqrtD a d) s (ResultAt s d (s.fp.double.sqrt (s.readX a))) ∧
    Completes (.cvtSD a d) s (ResultAt s d (BitVec.setWidth 64 (s.fp.narrow (s.readX a)))) ∧
    Completes (.cvtDS a d) s (ResultAt s d (s.fp.widen ((s.readX a).setWidth 32))) ∧
    Completes (.cvtSI a d) s (ResultAt s d (BitVec.setWidth 64 (s.fp.single.fromInt (s.readX a)))) ∧
    Completes (.cvtDI a d) s (ResultAt s d (s.fp.double.fromInt (s.readX a))) ∧
    Completes (.cvtIS a d) s (ResultAt s d (s.fp.single.toInt ((s.readX a).setWidth 32))) ∧
    Completes (.cvtID a d) s (ResultAt s d (s.fp.double.toInt (s.readX a))) ∧
    Completes (.rintS a d) s (ResultAt s d (BitVec.setWidth 64 (s.fp.single.rint ((s.readX a).setWidth 32)))) ∧
    Completes (.rintD a d) s (ResultAt s d (s.fp.double.rint (s.readX a)))) ∧
  (∀ (rm : Config.RoundingMode) (x : BitVec 32) (y : BitVec 64),
    (ieee rm).rm = rm ∧ (ieee rm).single.abs x = x &&& 0x7FFFFFFF ∧ (ieee rm).double.abs y = y &&& 0x7FFFFFFFFFFFFFFF ∧
    (ieee rm).single.neg x = x ^^^ 0x80000000 ∧ (ieee rm).double.neg y = y ^^^ 0x8000000000000000)

/-- In every state, whatever record fp the machine has, EQ, NE, LT, GE, INF and NAN of both precisions write register d with 1
when that function of the record holds of registers a and b and with 0 when it does not; ANDcc and ORcc combine the comparison
of registers b and c with register a being not zero as all 64 bits. A single-precision operand is the low 32 bits of its
register. Nothing else changes, no exception is raised, and the next instruction follows. The words with opcode number 43 and
f = 0 to 5, p = 0 or 1, decode to EQ, NE, LT, GE, INF and NAN; GT and LE have no words of their own, being LT and GE with a
and b exchanged, and no word is an unordered compare: f = 6 and 7 are undefined. (Choices of the specification, not of the
source: that fp is a record of functions is D22 (log entry 22); that register a counts as true when it is not zero as all 64
bits is D9 (log entry 9); where each field of a word stands is D1 (log entry 1).) Rests on: 44_floating_point.md sections 1
and 3 (R351, R352, R356, R374 to R386); 44_floating_point.md section 6 (R412 to R427); 30_encoding.md sections 4 and 5 (R116,
R121); 92_eei_decisions.md D1, D9, D22; notes/assumptions 1, 9 and 22. -/
def Obligations.FloatCompares : Prop :=
  (∀ (s : State) (a b c d : Reg),
    Completes (.eqS a b d) s (ResultAt s d (if s.fp.single.eq ((s.readX a).setWidth 32) ((s.readX b).setWidth 32) then 1 else 0)) ∧
    Completes (.neS a b d) s (ResultAt s d (if s.fp.single.ne ((s.readX a).setWidth 32) ((s.readX b).setWidth 32) then 1 else 0)) ∧
    Completes (.ltS a b d) s (ResultAt s d (if s.fp.single.lt ((s.readX a).setWidth 32) ((s.readX b).setWidth 32) then 1 else 0)) ∧
    Completes (.geS a b d) s (ResultAt s d (if s.fp.single.ge ((s.readX a).setWidth 32) ((s.readX b).setWidth 32) then 1 else 0)) ∧
    Completes (.infS a b d) s (ResultAt s d (if s.fp.single.isInf ((s.readX a).setWidth 32) ∨ s.fp.single.isInf ((s.readX b).setWidth 32) then 1 else 0)) ∧
    Completes (.nanS a b d) s (ResultAt s d (if s.fp.single.isNan ((s.readX a).setWidth 32) ∨ s.fp.single.isNan ((s.readX b).setWidth 32) then 1 else 0)) ∧
    Completes (.eqD a b d) s (ResultAt s d (if s.fp.double.eq (s.readX a) (s.readX b) then 1 else 0)) ∧
    Completes (.neD a b d) s (ResultAt s d (if s.fp.double.ne (s.readX a) (s.readX b) then 1 else 0)) ∧
    Completes (.ltD a b d) s (ResultAt s d (if s.fp.double.lt (s.readX a) (s.readX b) then 1 else 0)) ∧
    Completes (.geD a b d) s (ResultAt s d (if s.fp.double.ge (s.readX a) (s.readX b) then 1 else 0)) ∧
    Completes (.infD a b d) s (ResultAt s d (if s.fp.double.isInf (s.readX a) ∨ s.fp.double.isInf (s.readX b) then 1 else 0)) ∧
    Completes (.nanD a b d) s (ResultAt s d (if s.fp.double.isNan (s.readX a) ∨ s.fp.double.isNan (s.readX b) then 1 else 0)) ∧
    Completes (.andeqS a b c d) s (ResultAt s d (if s.readX a ≠ 0 ∧ s.fp.single.eq ((s.readX b).setWidth 32) ((s.readX c).setWidth 32) then 1 else 0)) ∧
    Completes (.andneS a b c d) s (ResultAt s d (if s.readX a ≠ 0 ∧ s.fp.single.ne ((s.readX b).setWidth 32) ((s.readX c).setWidth 32) then 1 else 0)) ∧
    Completes (.andltS a b c d) s (ResultAt s d (if s.readX a ≠ 0 ∧ s.fp.single.lt ((s.readX b).setWidth 32) ((s.readX c).setWidth 32) then 1 else 0)) ∧
    Completes (.andgeS a b c d) s (ResultAt s d (if s.readX a ≠ 0 ∧ s.fp.single.ge ((s.readX b).setWidth 32) ((s.readX c).setWidth 32) then 1 else 0)) ∧
    Completes (.oreqS a b c d) s (ResultAt s d (if s.readX a ≠ 0 ∨ s.fp.single.eq ((s.readX b).setWidth 32) ((s.readX c).setWidth 32) then 1 else 0)) ∧
    Completes (.orneS a b c d) s (ResultAt s d (if s.readX a ≠ 0 ∨ s.fp.single.ne ((s.readX b).setWidth 32) ((s.readX c).setWidth 32) then 1 else 0)) ∧
    Completes (.orltS a b c d) s (ResultAt s d (if s.readX a ≠ 0 ∨ s.fp.single.lt ((s.readX b).setWidth 32) ((s.readX c).setWidth 32) then 1 else 0)) ∧
    Completes (.orgeS a b c d) s (ResultAt s d (if s.readX a ≠ 0 ∨ s.fp.single.ge ((s.readX b).setWidth 32) ((s.readX c).setWidth 32) then 1 else 0)) ∧
    Completes (.andeqD a b c d) s (ResultAt s d (if s.readX a ≠ 0 ∧ s.fp.double.eq (s.readX b) (s.readX c) then 1 else 0)) ∧
    Completes (.andneD a b c d) s (ResultAt s d (if s.readX a ≠ 0 ∧ s.fp.double.ne (s.readX b) (s.readX c) then 1 else 0)) ∧
    Completes (.andltD a b c d) s (ResultAt s d (if s.readX a ≠ 0 ∧ s.fp.double.lt (s.readX b) (s.readX c) then 1 else 0)) ∧
    Completes (.andgeD a b c d) s (ResultAt s d (if s.readX a ≠ 0 ∧ s.fp.double.ge (s.readX b) (s.readX c) then 1 else 0)) ∧
    Completes (.oreqD a b c d) s (ResultAt s d (if s.readX a ≠ 0 ∨ s.fp.double.eq (s.readX b) (s.readX c) then 1 else 0)) ∧
    Completes (.orneD a b c d) s (ResultAt s d (if s.readX a ≠ 0 ∨ s.fp.double.ne (s.readX b) (s.readX c) then 1 else 0)) ∧
    Completes (.orltD a b c d) s (ResultAt s d (if s.readX a ≠ 0 ∨ s.fp.double.lt (s.readX b) (s.readX c) then 1 else 0)) ∧
    Completes (.orgeD a b c d) s (ResultAt s d (if s.readX a ≠ 0 ∨ s.fp.double.ge (s.readX b) (s.readX c) then 1 else 0))) ∧
  (∀ (nop : Config.NopCode) (a b d : Reg),
    decode nop (formatFP 43 0 0 a b 0 d) = .ok (.eqS a b d) ∧
    decode nop (formatFP 43 0 1 a b 0 d) = .ok (.eqD a b d) ∧
    decode nop (formatFP 43 1 0 a b 0 d) = .ok (.neS a b d) ∧
    decode nop (formatFP 43 1 1 a b 0 d) = .ok (.neD a b d) ∧
    decode nop (formatFP 43 2 0 a b 0 d) = .ok (.ltS a b d) ∧
    decode nop (formatFP 43 2 1 a b 0 d) = .ok (.ltD a b d) ∧
    decode nop (formatFP 43 3 0 a b 0 d) = .ok (.geS a b d) ∧
    decode nop (formatFP 43 3 1 a b 0 d) = .ok (.geD a b d) ∧
    decode nop (formatFP 43 4 0 a b 0 d) = .ok (.infS a b d) ∧
    decode nop (formatFP 43 4 1 a b 0 d) = .ok (.infD a b d) ∧
    decode nop (formatFP 43 5 0 a b 0 d) = .ok (.nanS a b d) ∧
    decode nop (formatFP 43 5 1 a b 0 d) = .ok (.nanD a b d) ∧
    ∀ p : BitVec 1, decode nop (formatFP 43 6 p a b 0 d) = .error (.undefinedFunction 43 6 p.toNat) ∧
      decode nop (formatFP 43 7 p a b 0 d) = .error (.undefinedFunction 43 7 p.toNat))

/-- In every state, whatever record fp the machine has, ADD, NADD, MUL, DIV, MIN and MAX of both precisions and the three-
source ADD, NADD, MADD, NMADD, MIN and MAX write register d with their function of that record; N applies the NEG of the
record to the first operand. A single-precision operand is the low 32 bits of its register and a single-precision result is
zero-extended. Nothing else changes, no exception is raised, and the next instruction follows. In every IEEE instance, the
default one among them, a function of three operands is two functions of two, left to right, each rounded. What the functions
of two operands of the default instance compute is stated of the numbers in the statements on rounding. (Choices of the
specification, not of the source: that fp is a record of functions is D22 (log entry 22); that a function of three operands
rounds twice in the IEEE instances is D32 (log entry 32).) Rests on: 44_floating_point.md sections 1 and 4 (R351, R352, R355,
R356, R387 to R398); 44_floating_point.md section 5 (R400 to R411); 92_eei_decisions.md D22, D32; notes/assumptions 22 and 32.
-/
def Obligations.FloatArithmetic : Prop :=
  (∀ (s : State) (a b c d : Reg),
    Completes (.addS a b d) s (ResultAt s d (BitVec.setWidth 64 (s.fp.single.add ((s.readX a).setWidth 32) ((s.readX b).setWidth 32)))) ∧
    Completes (.mulS a b d) s (ResultAt s d (BitVec.setWidth 64 (s.fp.single.mul ((s.readX a).setWidth 32) ((s.readX b).setWidth 32)))) ∧
    Completes (.divS a b d) s (ResultAt s d (BitVec.setWidth 64 (s.fp.single.div ((s.readX a).setWidth 32) ((s.readX b).setWidth 32)))) ∧
    Completes (.minS a b d) s (ResultAt s d (BitVec.setWidth 64 (s.fp.single.min ((s.readX a).setWidth 32) ((s.readX b).setWidth 32)))) ∧
    Completes (.maxS a b d) s (ResultAt s d (BitVec.setWidth 64 (s.fp.single.max ((s.readX a).setWidth 32) ((s.readX b).setWidth 32)))) ∧
    Completes (.naddS a b d) s (ResultAt s d (BitVec.setWidth 64 (s.fp.single.add (s.fp.single.neg ((s.readX a).setWidth 32)) ((s.readX b).setWidth 32)))) ∧
    Completes (.add3S a b c d) s (ResultAt s d (BitVec.setWidth 64 (s.fp.single.add3 ((s.readX a).setWidth 32) ((s.readX b).setWidth 32) ((s.readX c).setWidth 32)))) ∧
    Completes (.nadd3S a b c d) s (ResultAt s d (BitVec.setWidth 64 (s.fp.single.add3 (s.fp.single.neg ((s.readX a).setWidth 32)) ((s.readX b).setWidth 32) ((s.readX c).setWidth 32)))) ∧
    Completes (.maddS a b c d) s (ResultAt s d (BitVec.setWidth 64 (s.fp.single.madd ((s.readX a).setWidth 32) ((s.readX b).setWidth 32) ((s.readX c).setWidth 32)))) ∧
    Completes (.nmaddS a b c d) s (ResultAt s d (BitVec.setWidth 64 (s.fp.single.madd (s.fp.single.neg ((s.readX a).setWidth 32)) ((s.readX b).setWidth 32) ((s.readX c).setWidth 32)))) ∧
    Completes (.min3S a b c d) s (ResultAt s d (BitVec.setWidth 64 (s.fp.single.min3 ((s.readX a).setWidth 32) ((s.readX b).setWidth 32) ((s.readX c).setWidth 32)))) ∧
    Completes (.max3S a b c d) s (ResultAt s d (BitVec.setWidth 64 (s.fp.single.max3 ((s.readX a).setWidth 32) ((s.readX b).setWidth 32) ((s.readX c).setWidth 32)))) ∧
    Completes (.addD a b d) s (ResultAt s d (s.fp.double.add (s.readX a) (s.readX b))) ∧
    Completes (.mulD a b d) s (ResultAt s d (s.fp.double.mul (s.readX a) (s.readX b))) ∧
    Completes (.divD a b d) s (ResultAt s d (s.fp.double.div (s.readX a) (s.readX b))) ∧
    Completes (.minD a b d) s (ResultAt s d (s.fp.double.min (s.readX a) (s.readX b))) ∧
    Completes (.maxD a b d) s (ResultAt s d (s.fp.double.max (s.readX a) (s.readX b))) ∧
    Completes (.naddD a b d) s (ResultAt s d (s.fp.double.add (s.fp.double.neg (s.readX a)) (s.readX b))) ∧
    Completes (.add3D a b c d) s (ResultAt s d (s.fp.double.add3 (s.readX a) (s.readX b) (s.readX c))) ∧
    Completes (.nadd3D a b c d) s (ResultAt s d (s.fp.double.add3 (s.fp.double.neg (s.readX a)) (s.readX b) (s.readX c))) ∧
    Completes (.maddD a b c d) s (ResultAt s d (s.fp.double.madd (s.readX a) (s.readX b) (s.readX c))) ∧
    Completes (.nmaddD a b c d) s (ResultAt s d (s.fp.double.madd (s.fp.double.neg (s.readX a)) (s.readX b) (s.readX c))) ∧
    Completes (.min3D a b c d) s (ResultAt s d (s.fp.double.min3 (s.readX a) (s.readX b) (s.readX c))) ∧
    Completes (.max3D a b c d) s (ResultAt s d (s.fp.double.max3 (s.readX a) (s.readX b) (s.readX c)))) ∧
  (∀ (rm : Config.RoundingMode) (x y z : BitVec 32),
    (ieee rm).single.add3 x y z = (ieee rm).single.add ((ieee rm).single.add x y) z ∧
    (ieee rm).single.madd x y z = (ieee rm).single.add ((ieee rm).single.mul x y) z ∧
    (ieee rm).single.min3 x y z = (ieee rm).single.min ((ieee rm).single.min x y) z ∧
    (ieee rm).single.max3 x y z = (ieee rm).single.max ((ieee rm).single.max x y) z) ∧
  (∀ (rm : Config.RoundingMode) (x y z : BitVec 64),
    (ieee rm).double.add3 x y z = (ieee rm).double.add ((ieee rm).double.add x y) z ∧
    (ieee rm).double.madd x y z = (ieee rm).double.add ((ieee rm).double.mul x y) z ∧
    (ieee rm).double.min3 x y z = (ieee rm).double.min ((ieee rm).double.min x y) z ∧
    (ieee rm).double.max3 x y z = (ieee rm).double.max ((ieee rm).double.max x y) z)

/-- In the default instance, for two patterns of either precision that stand for x and y, each a number or an infinity: LT
holds exactly when x < y, EQ exactly when x = y (so +0 equals -0), NE exactly when they differ, GE exactly when y is at most
x; MIN gives the operand that stands for the lesser and MAX the one for the greater, and of two equal ones MIN gives -0 when
either is -0 and MAX gives +0 when either is +0. INF holds exactly when the exponent field is all ones and the fraction 0, NAN
when the fraction is not 0. When either is a NaN, EQ, LT and GE fail and NE holds; MIN and MAX give the other operand when
exactly one is a NaN, and a NaN when both are. NAN holds of two operands exactly when they are unordered: the first is neither
less than, nor equal to, nor greater than the second (GT being LT exchanged), and exactly when neither GE nor its exchange
holds. (A choice of the specification, not of the source: the formats, the special values and rounding to nearest even of the
default instance is D22 (log entry 22).) Rests on: 44_floating_point.md section 1 (R356); 44_floating_point.md section 3 (R374
to R386); 44_floating_point.md section 4 (R395 to R398); 92_eei_decisions.md D22; notes/assumptions 22. -/
def Obligations.FloatComparesCompareNumbers : Prop :=
  (∀ a b : BitVec 32,
    (∀ x y : EReal, single.extended a.toNat = some x → single.extended b.toNat = some y →
      ((ieee .nearestEven).single.lt a b = true ↔ x < y) ∧ ((ieee .nearestEven).single.eq a b = true ↔ x = y) ∧
      ((ieee .nearestEven).single.ne a b = true ↔ x ≠ y) ∧ ((ieee .nearestEven).single.ge a b = true ↔ y ≤ x) ∧
      (x < y → (ieee .nearestEven).single.min a b = a ∧ (ieee .nearestEven).single.max a b = b) ∧ (y < x → (ieee .nearestEven).single.min a b = b ∧ (ieee .nearestEven).single.max a b = a) ∧
      (x = y → ((ieee .nearestEven).single.min a b = if a.msb then a else b) ∧ ((ieee .nearestEven).single.max a b = if a.msb then b else a))) ∧
    ((ieee .nearestEven).single.isInf a = true ↔ a.extractLsb' 23 8 = 0xFF ∧ a.extractLsb' 0 23 = 0) ∧
    ((ieee .nearestEven).single.isNan a = true ↔ a.extractLsb' 23 8 = 0xFF ∧ a.extractLsb' 0 23 ≠ 0) ∧
    ((ieee .nearestEven).single.isInf a = true ↔ single.extended a.toNat = some ⊤ ∨ single.extended a.toNat = some ⊥) ∧
    ((ieee .nearestEven).single.isNan a = true ↔ single.extended a.toNat = none) ∧
    ((ieee .nearestEven).single.isNan a = true ∨ (ieee .nearestEven).single.isNan b = true →
      (ieee .nearestEven).single.lt a b = false ∧ (ieee .nearestEven).single.eq a b = false ∧ (ieee .nearestEven).single.ne a b = true ∧ (ieee .nearestEven).single.ge a b = false) ∧
    (((ieee .nearestEven).single.isNan a || (ieee .nearestEven).single.isNan b) = true ↔ (ieee .nearestEven).single.lt a b = false ∧ (ieee .nearestEven).single.eq a b = false ∧ (ieee .nearestEven).single.lt b a = false) ∧
    (((ieee .nearestEven).single.isNan a || (ieee .nearestEven).single.isNan b) = true ↔ (ieee .nearestEven).single.ge a b = false ∧ (ieee .nearestEven).single.ge b a = false) ∧
    ((ieee .nearestEven).single.isNan a = true → (ieee .nearestEven).single.isNan b = false → (ieee .nearestEven).single.min a b = b ∧ (ieee .nearestEven).single.max a b = b) ∧
    ((ieee .nearestEven).single.isNan a = false → (ieee .nearestEven).single.isNan b = true → (ieee .nearestEven).single.min a b = a ∧ (ieee .nearestEven).single.max a b = a) ∧
    ((ieee .nearestEven).single.isNan a = true → (ieee .nearestEven).single.isNan b = true →
      (ieee .nearestEven).single.isNan ((ieee .nearestEven).single.min a b) = true ∧ (ieee .nearestEven).single.isNan ((ieee .nearestEven).single.max a b) = true)) ∧
  (∀ a b : BitVec 64,
    (∀ x y : EReal, double.extended a.toNat = some x → double.extended b.toNat = some y →
      ((ieee .nearestEven).double.lt a b = true ↔ x < y) ∧ ((ieee .nearestEven).double.eq a b = true ↔ x = y) ∧
      ((ieee .nearestEven).double.ne a b = true ↔ x ≠ y) ∧ ((ieee .nearestEven).double.ge a b = true ↔ y ≤ x) ∧
      (x < y → (ieee .nearestEven).double.min a b = a ∧ (ieee .nearestEven).double.max a b = b) ∧ (y < x → (ieee .nearestEven).double.min a b = b ∧ (ieee .nearestEven).double.max a b = a) ∧
      (x = y → ((ieee .nearestEven).double.min a b = if a.msb then a else b) ∧ ((ieee .nearestEven).double.max a b = if a.msb then b else a))) ∧
    ((ieee .nearestEven).double.isInf a = true ↔ a.extractLsb' 52 11 = 0x7FF ∧ a.extractLsb' 0 52 = 0) ∧
    ((ieee .nearestEven).double.isNan a = true ↔ a.extractLsb' 52 11 = 0x7FF ∧ a.extractLsb' 0 52 ≠ 0) ∧
    ((ieee .nearestEven).double.isInf a = true ↔ double.extended a.toNat = some ⊤ ∨ double.extended a.toNat = some ⊥) ∧
    ((ieee .nearestEven).double.isNan a = true ↔ double.extended a.toNat = none) ∧
    ((ieee .nearestEven).double.isNan a = true ∨ (ieee .nearestEven).double.isNan b = true →
      (ieee .nearestEven).double.lt a b = false ∧ (ieee .nearestEven).double.eq a b = false ∧ (ieee .nearestEven).double.ne a b = true ∧ (ieee .nearestEven).double.ge a b = false) ∧
    (((ieee .nearestEven).double.isNan a || (ieee .nearestEven).double.isNan b) = true ↔ (ieee .nearestEven).double.lt a b = false ∧ (ieee .nearestEven).double.eq a b = false ∧ (ieee .nearestEven).double.lt b a = false) ∧
    (((ieee .nearestEven).double.isNan a || (ieee .nearestEven).double.isNan b) = true ↔ (ieee .nearestEven).double.ge a b = false ∧ (ieee .nearestEven).double.ge b a = false) ∧
    ((ieee .nearestEven).double.isNan a = true → (ieee .nearestEven).double.isNan b = false → (ieee .nearestEven).double.min a b = b ∧ (ieee .nearestEven).double.max a b = b) ∧
    ((ieee .nearestEven).double.isNan a = false → (ieee .nearestEven).double.isNan b = true → (ieee .nearestEven).double.min a b = a ∧ (ieee .nearestEven).double.max a b = a) ∧
    ((ieee .nearestEven).double.isNan a = true → (ieee .nearestEven).double.isNan b = true →
      (ieee .nearestEven).double.isNan ((ieee .nearestEven).double.min a b) = true ∧ (ieee .nearestEven).double.isNan ((ieee .nearestEven).double.max a b) = true))

/-- In every IEEE instance, for every single-precision pattern that is not a NaN: converting it to double precision and back
gives the same pattern; when it stands for a number, the double-precision pattern stands for the same number. (A choice of the
specification, not of the source: that the formats are those of IEEE 754 is D22 (log entry 22).) Rests on:
44_floating_point.md section 2 (R366, R367); 44_floating_point.md section 1 (R356); 92_eei_decisions.md D22; notes/assumptions
22. -/
def Obligations.SingleSurvivesWidening : Prop :=
  ∀ (rm : Config.RoundingMode) (a : BitVec 32), (ieee rm).single.isNan a = false →
    (ieee rm).narrow ((ieee rm).widen a) = a ∧
      ∀ x : ℚ, single.number a.toNat = some x → double.number ((ieee rm).widen a).toNat = some x

/-- In every IEEE instance, for every 64-bit integer of magnitude at most 2^53: CVTD.I gives a pattern that stands for exactly
that number, and CVTI.D of it gives the integer back. (Choices of the specification, not of the source: that the formats are
those of IEEE 754 is D22 (log entry 22); that integers are 64-bit signed and CVTI rounds by the mode of fp is D23 (log entry
23).) Rests on: 44_floating_point.md section 2 (R369, R371); 92_eei_decisions.md D22, D23; notes/assumptions 22 and 23. -/
def Obligations.IntegersSurviveDouble : Prop :=
  ∀ (rm : Config.RoundingMode) (v : Word), v.toInt.natAbs ≤ 2 ^ 53 →
    double.number ((ieee rm).double.fromInt v).toNat = some (v.toInt : ℚ) ∧ (ieee rm).double.toInt ((ieee rm).double.fromInt v) = v

/-- In the default instance, for two patterns of either precision that stand for numbers x and y: ADD gives the pattern of x +
y, rounded to nearest, ties to even, with an infinity from half a unit above the largest number on and with the sign of the
exact value; a sum 0 is -0 when both operands are negative zeros and +0 otherwise. An infinity and a number, or two infinities
of one sign, give that infinity; two of different signs, or a NaN, give a NaN. (A choice of the specification, not of the
source: the formats, the special values and rounding to nearest even of the default instance is D22 (log entry 22).) Rests on:
44_floating_point.md section 1 (R356, R357); 44_floating_point.md section 4 (R387, R388); 92_eei_decisions.md D22;
notes/assumptions 22. -/
def Obligations.AdditionRoundsToNearest : Prop :=
  (∀ a b : BitVec 32,
    (∀ x y : ℚ, single.number a.toNat = some x → single.number b.toNat = some y →
      (x + y ≠ 0 → single.Rounded (decide (x + y < 0)) ((x + y : ℚ) : ℝ) ((ieee .nearestEven).single.add a b).toNat) ∧
      (x + y = 0 → (ieee .nearestEven).single.add a b = if a.msb ∧ b.msb then BitVec.intMin 32 else 0)) ∧
    ((ieee .nearestEven).single.isInf a = true → (ieee .nearestEven).single.isNan b = false → ((ieee .nearestEven).single.isInf b = true → b = a) → (ieee .nearestEven).single.add a b = a) ∧
    ((ieee .nearestEven).single.isInf b = true → (ieee .nearestEven).single.isNan a = false → ((ieee .nearestEven).single.isInf a = true → a = b) → (ieee .nearestEven).single.add a b = b) ∧
    ((ieee .nearestEven).single.isInf a = true ∧ (ieee .nearestEven).single.isInf b = true ∧ a ≠ b ∨ (ieee .nearestEven).single.isNan a = true ∨ (ieee .nearestEven).single.isNan b = true →
      (ieee .nearestEven).single.isNan ((ieee .nearestEven).single.add a b) = true)) ∧
  (∀ a b : BitVec 64,
    (∀ x y : ℚ, double.number a.toNat = some x → double.number b.toNat = some y →
      (x + y ≠ 0 → double.Rounded (decide (x + y < 0)) ((x + y : ℚ) : ℝ) ((ieee .nearestEven).double.add a b).toNat) ∧
      (x + y = 0 → (ieee .nearestEven).double.add a b = if a.msb ∧ b.msb then BitVec.intMin 64 else 0)) ∧
    ((ieee .nearestEven).double.isInf a = true → (ieee .nearestEven).double.isNan b = false → ((ieee .nearestEven).double.isInf b = true → b = a) → (ieee .nearestEven).double.add a b = a) ∧
    ((ieee .nearestEven).double.isInf b = true → (ieee .nearestEven).double.isNan a = false → ((ieee .nearestEven).double.isInf a = true → a = b) → (ieee .nearestEven).double.add a b = b) ∧
    ((ieee .nearestEven).double.isInf a = true ∧ (ieee .nearestEven).double.isInf b = true ∧ a ≠ b ∨ (ieee .nearestEven).double.isNan a = true ∨ (ieee .nearestEven).double.isNan b = true →
      (ieee .nearestEven).double.isNan ((ieee .nearestEven).double.add a b) = true))

/-- In the default instance, for two patterns of either precision that stand for numbers x and y: MUL gives the pattern of x *
y, DIV for y not 0 that of x / y, rounded to nearest, ties to even, with an infinity from half a unit above the largest number
on and with the sign of the exact value (of the two operands, when the exact value is 0); x / 0 for x not 0 is an infinity
with the sign of both operands, 0 / 0 a NaN. An infinity times a number that is not 0 or an infinity, and an infinity divided
by a number, are infinities, a number divided by an infinity is a zero, with the sign of both operands; 0 times an infinity,
an infinity divided by an infinity, and any operation on a NaN give a NaN. (A choice of the specification, not of the source:
the formats, the special values and rounding to nearest even of the default instance is D22 (log entry 22).) Rests on:
44_floating_point.md section 1 (R356, R357); 44_floating_point.md section 4 (R391 to R394); 92_eei_decisions.md D22;
notes/assumptions 22. -/
def Obligations.ProductsAndQuotientsRoundToNearest : Prop :=
  (∀ a b : BitVec 32,
    (∀ x y : ℚ, single.number a.toNat = some x → single.number b.toNat = some y →
      single.Rounded (a.msb ^^ b.msb) ((x * y : ℚ) : ℝ) ((ieee .nearestEven).single.mul a b).toNat ∧
      (y ≠ 0 → single.Rounded (a.msb ^^ b.msb) ((x / y : ℚ) : ℝ) ((ieee .nearestEven).single.div a b).toNat) ∧
      (y = 0 → x ≠ 0 → single.value ((ieee .nearestEven).single.div a b).toNat = .inf (a.msb ^^ b.msb)) ∧
      (y = 0 → x = 0 → (ieee .nearestEven).single.isNan ((ieee .nearestEven).single.div a b) = true)) ∧
    (∀ y : ℚ, (ieee .nearestEven).single.isInf a = true → single.number b.toNat = some y →
      (y ≠ 0 → single.value ((ieee .nearestEven).single.mul a b).toNat = .inf (a.msb ^^ b.msb) ∧ single.value ((ieee .nearestEven).single.mul b a).toNat = .inf (a.msb ^^ b.msb)) ∧
      (y = 0 → (ieee .nearestEven).single.isNan ((ieee .nearestEven).single.mul a b) = true ∧ (ieee .nearestEven).single.isNan ((ieee .nearestEven).single.mul b a) = true) ∧
      single.value ((ieee .nearestEven).single.div a b).toNat = .inf (a.msb ^^ b.msb) ∧
      (ieee .nearestEven).single.div b a = if (a.msb ^^ b.msb) = true then BitVec.intMin 32 else 0) ∧
    ((ieee .nearestEven).single.isInf a = true → (ieee .nearestEven).single.isInf b = true →
      single.value ((ieee .nearestEven).single.mul a b).toNat = .inf (a.msb ^^ b.msb) ∧ (ieee .nearestEven).single.isNan ((ieee .nearestEven).single.div a b) = true) ∧
    ((ieee .nearestEven).single.isNan a = true ∨ (ieee .nearestEven).single.isNan b = true →
      (ieee .nearestEven).single.isNan ((ieee .nearestEven).single.mul a b) = true ∧ (ieee .nearestEven).single.isNan ((ieee .nearestEven).single.div a b) = true)) ∧
  (∀ a b : BitVec 64,
    (∀ x y : ℚ, double.number a.toNat = some x → double.number b.toNat = some y →
      double.Rounded (a.msb ^^ b.msb) ((x * y : ℚ) : ℝ) ((ieee .nearestEven).double.mul a b).toNat ∧
      (y ≠ 0 → double.Rounded (a.msb ^^ b.msb) ((x / y : ℚ) : ℝ) ((ieee .nearestEven).double.div a b).toNat) ∧
      (y = 0 → x ≠ 0 → double.value ((ieee .nearestEven).double.div a b).toNat = .inf (a.msb ^^ b.msb)) ∧
      (y = 0 → x = 0 → (ieee .nearestEven).double.isNan ((ieee .nearestEven).double.div a b) = true)) ∧
    (∀ y : ℚ, (ieee .nearestEven).double.isInf a = true → double.number b.toNat = some y →
      (y ≠ 0 → double.value ((ieee .nearestEven).double.mul a b).toNat = .inf (a.msb ^^ b.msb) ∧ double.value ((ieee .nearestEven).double.mul b a).toNat = .inf (a.msb ^^ b.msb)) ∧
      (y = 0 → (ieee .nearestEven).double.isNan ((ieee .nearestEven).double.mul a b) = true ∧ (ieee .nearestEven).double.isNan ((ieee .nearestEven).double.mul b a) = true) ∧
      double.value ((ieee .nearestEven).double.div a b).toNat = .inf (a.msb ^^ b.msb) ∧
      (ieee .nearestEven).double.div b a = if (a.msb ^^ b.msb) = true then BitVec.intMin 64 else 0) ∧
    ((ieee .nearestEven).double.isInf a = true → (ieee .nearestEven).double.isInf b = true →
      double.value ((ieee .nearestEven).double.mul a b).toNat = .inf (a.msb ^^ b.msb) ∧ (ieee .nearestEven).double.isNan ((ieee .nearestEven).double.div a b) = true) ∧
    ((ieee .nearestEven).double.isNan a = true ∨ (ieee .nearestEven).double.isNan b = true →
      (ieee .nearestEven).double.isNan ((ieee .nearestEven).double.mul a b) = true ∧ (ieee .nearestEven).double.isNan ((ieee .nearestEven).double.div a b) = true))

/-- In the default instance, for a pattern of either precision that stands for a number x: SQRT gives for x > 0 the pattern of
the real square root of x, rounded to nearest, ties to even, with an infinity from half a unit above the largest number on and
with the sign of the exact value, for a zero that zero with its sign, for x < 0 a NaN; for +infinity it gives +infinity, for
-infinity and for a NaN a NaN. (A choice of the specification, not of the source: the formats, the special values and rounding
to nearest even of the default instance is D22 (log entry 22).) Rests on: 44_floating_point.md section 1 (R356, R357);
44_floating_point.md section 2 (R364, R365); 92_eei_decisions.md D22; notes/assumptions 22. -/
def Obligations.SquareRootsRoundToNearest : Prop :=
  (∀ a : BitVec 32,
    (∀ x : ℚ, single.number a.toNat = some x →
      (0 < x → single.Rounded false (Real.sqrt ((x : ℚ) : ℝ)) ((ieee .nearestEven).single.sqrt a).toNat) ∧ (x = 0 → (ieee .nearestEven).single.sqrt a = a) ∧
      (x < 0 → (ieee .nearestEven).single.isNan ((ieee .nearestEven).single.sqrt a) = true)) ∧
    ((ieee .nearestEven).single.isInf a = true → a.msb = false → (ieee .nearestEven).single.sqrt a = a) ∧
    ((ieee .nearestEven).single.isInf a = true → a.msb = true → (ieee .nearestEven).single.isNan ((ieee .nearestEven).single.sqrt a) = true) ∧
    ((ieee .nearestEven).single.isNan a = true → (ieee .nearestEven).single.isNan ((ieee .nearestEven).single.sqrt a) = true)) ∧
  (∀ a : BitVec 64,
    (∀ x : ℚ, double.number a.toNat = some x →
      (0 < x → double.Rounded false (Real.sqrt ((x : ℚ) : ℝ)) ((ieee .nearestEven).double.sqrt a).toNat) ∧ (x = 0 → (ieee .nearestEven).double.sqrt a = a) ∧
      (x < 0 → (ieee .nearestEven).double.isNan ((ieee .nearestEven).double.sqrt a) = true)) ∧
    ((ieee .nearestEven).double.isInf a = true → a.msb = false → (ieee .nearestEven).double.sqrt a = a) ∧
    ((ieee .nearestEven).double.isInf a = true → a.msb = true → (ieee .nearestEven).double.isNan ((ieee .nearestEven).double.sqrt a) = true) ∧
    ((ieee .nearestEven).double.isNan a = true → (ieee .nearestEven).double.isNan ((ieee .nearestEven).double.sqrt a) = true))

/-- In the IEEE instance of every rounding mode, for a pattern of either precision that stands for a number x, there is an
integer n that the mode makes of x (the default: the nearest, of two equally near the even one), and RINT gives a pattern with
the sign of the operand that stands for n; when n lies in [-2^63, 2^63), CVTI gives n. RINT leaves an integral value, a zero
and an infinity as they are and makes a NaN of a NaN. What CVTI gives otherwise is open. (Choices of the specification, not of
the source: the formats, the special values and rounding to nearest even of the default instance is D22 (log entry 22); that
integers are 64-bit signed and CVTI rounds by the mode of fp is D23 (log entry 23); the four modes that are not the default
are those of IEEE 754, PRESUMED (log entry 22).) Rests on: 44_floating_point.md section 1 (R357); 44_floating_point.md section
2 (R370 to R373); 92_eei_decisions.md D22, D23; notes/assumptions 22 and 23. -/
def Obligations.RoundingToIntegers : Prop :=
  (∀ (rm : Config.RoundingMode) (a : BitVec 32),
    (∀ x : ℚ, single.number a.toNat = some x → ∃ n : ℤ, RoundsToInteger rm x n ∧
      single.number ((ieee rm).single.rint a).toNat = some (n : ℚ) ∧ ((ieee rm).single.rint a).msb = a.msb ∧
      (-2 ^ 63 ≤ n → n < 2 ^ 63 → ((ieee rm).single.toInt a).toInt = n)) ∧
    (∀ n : ℤ, single.number a.toNat = some (n : ℚ) → (ieee rm).single.rint a = a) ∧
    ((ieee rm).single.isInf a = true → (ieee rm).single.rint a = a) ∧ ((ieee rm).single.isNan a = true → (ieee rm).single.isNan ((ieee rm).single.rint a) = true)) ∧
  (∀ (rm : Config.RoundingMode) (a : BitVec 64),
    (∀ x : ℚ, double.number a.toNat = some x → ∃ n : ℤ, RoundsToInteger rm x n ∧
      double.number ((ieee rm).double.rint a).toNat = some (n : ℚ) ∧ ((ieee rm).double.rint a).msb = a.msb ∧
      (-2 ^ 63 ≤ n → n < 2 ^ 63 → ((ieee rm).double.toInt a).toInt = n)) ∧
    (∀ n : ℤ, double.number a.toNat = some (n : ℚ) → (ieee rm).double.rint a = a) ∧
    ((ieee rm).double.isInf a = true → (ieee rm).double.rint a = a) ∧ ((ieee rm).double.isNan a = true → (ieee rm).double.isNan ((ieee rm).double.rint a) = true))

/-- In the default instance: for a double-precision pattern that stands for a number x, CVTS.D gives the single-precision
pattern of x, rounded to nearest, ties to even, with an infinity from half a unit above the largest number on and with the
sign of the exact value (of the operand, when x is 0); for every 64-bit signed integer v, CVTS.I and CVTD.I give the pattern
of v in the same way; CVTS.D of an infinity is the infinity of the same sign, and CVTS.D and CVTD.S of a NaN are NaNs.
(Choices of the specification, not of the source: the formats, the special values and rounding to nearest even of the default
instance is D22 (log entry 22); that the integers are 64-bit signed is D23 (log entry 23).) Rests on: 44_floating_point.md
section 1 (R356, R357); 44_floating_point.md section 2 (R366 to R369); 92_eei_decisions.md D22, D23; notes/assumptions 22 and
23. -/
def Obligations.ConversionsRoundToNearest : Prop :=
  (∀ (a : BitVec 64) (x : ℚ), double.number a.toNat = some x → single.Rounded a.msb (x : ℝ) ((ieee .nearestEven).narrow a).toNat) ∧
  (∀ v : Word, single.Rounded (decide (v.toInt < 0)) (v.toInt : ℝ) ((ieee .nearestEven).single.fromInt v).toNat ∧
    double.Rounded (decide (v.toInt < 0)) (v.toInt : ℝ) ((ieee .nearestEven).double.fromInt v).toNat) ∧
  (∀ a : BitVec 64, ((ieee .nearestEven).double.isInf a = true → single.value ((ieee .nearestEven).narrow a).toNat = .inf a.msb) ∧
    ((ieee .nearestEven).double.isNan a = true → (ieee .nearestEven).single.isNan ((ieee .nearestEven).narrow a) = true)) ∧
  (∀ a : BitVec 32, (ieee .nearestEven).single.isNan a = true → (ieee .nearestEven).double.isNan ((ieee .nearestEven).widen a) = true)

/-- In every state, at either level, SCALL enters the handler at EBASE + 0x00 and DCALL the one at EBASE + 0x40: EPC gets the
whole PC, ECODE the zero-extended Imm12, the level becomes 1; EADDR, every other register and memory stay. (Choices of the
specification, not of the source: that ECODE is the zero-extended Imm12 for both calls is D14 (log entry 14); what the entry
saves and where it goes (all of PC in EPC, EADDR as it was without a bad address, the low bits of EBASE dropped) is D17 (log
entry 17); that an exception at EL1 is an ordinary entry is D26 (log entry 26).) Rests on: 45_system.md section 1 (R431,
R432); 60_exceptions.md section 2 (R456 to R458); 92_eei_decisions.md D14, D17, D26; notes/assumptions 14, 17 and 26. -/
def Obligations.CallsTakeTheirExceptions : Prop :=
  ∀ (s : State) (imm : BitVec 12),
    Completes (.scall imm) s (TookException s 0x00 (imm.zeroExtend 64) none) ∧
    Completes (.dcall imm) s (TookException s 0x40 (imm.zeroExtend 64) none)

/-- In every state above EL0 SRET sets the level to the two low bits of EPC and goes to EPC with its two low bits cleared plus
four times the signed Imm12; no register and no byte of memory changes. (A choice of the specification, not of the source:
that SRET copies the level bits of EPC as they are is D27 (log entry 27).) Rests on: 45_system.md section 1 (R433);
60_exceptions.md section 2 (R459); 92_eei_decisions.md D15, D27; notes/assumptions 27. -/
def Obligations.ReturnFromException : Prop :=
  ∀ (s : State) (imm : BitVec 12), s.el ≠ 0 → Completes (.sret imm) s fun t =>
    SameR s t ∧ SameE s t ∧ SameMemory s t ∧ SameRest s t ∧ t.el = (s.readE 16).extractLsb' 0 2 ∧
      t.pcByte = (s.readE 16 &&& ~~~3) + imm.signExtend 64 * 4

/-- In every state at EL0 each of the four privileged instructions raises the exception with ECODE 1 and leaves EADDR, every
other register and memory as they were. (Choices of the specification, not of the source: that SRET at EL0 raises code 1 is
D15 (log entry 15); that the three moves raise code 1 at EL0 is D33 (log entry 33); what the entry saves and where it goes
(all of PC in EPC, EADDR as it was without a bad address, the low bits of EBASE dropped) is D17 (log entry 17); that a raising
instruction does nothing else is D25 (log entry 25).) Rests on: 45_system.md sections 1, 3 and 4 (R433, R437 to R439, R442,
R443); 60_exceptions.md sections 1 and 2 (R453, R455 to R457); 92_eei_decisions.md D15, D17, D25, D33; notes/assumptions 15,
17, 25 and 33. -/
def Obligations.PrivilegedInstructionsTrapAtUserLevel : Prop :=
  ∀ (s : State) (a d : Reg) (imm : BitVec 12), s.el = 0 →
    Completes (.sret imm) s (Raised s 1 none) ∧ Completes (.movec a d) s (Raised s 1 none) ∧
    Completes (.mover a d) s (Raised s 1 none) ∧ Completes (.movre a d) s (Raised s 1 none)

/-- In every state MOVRC writes the general register d with counter a (0 for an undefined one); above EL0 MOVEC and MOVER
write the exception register d with counter a and with general register a, and MOVRE writes the general register d with
exception register a. A write to a reserved exception register has no effect, one to INTS leaves the open value
irq.ints_write. Nothing else changes, and the next instruction follows. (A choice of the specification, not of the source:
what a write to INTS leaves, irq.ints_write, is D18 (log entry 38).) Rests on: 45_system.md section 3 (R436 to R440);
10_state.md sections 4 and 5 (R30, R36, R41); 92_eei_decisions.md D18, D33; notes/assumptions 38. -/
def Obligations.MovesComplete : Prop :=
  ∀ (s : State) (a d : Reg),
    (Completes (.movrc a d) s fun t =>
      WroteR s t d (s.readC a) ∧ SameMemory s t ∧ SameRest s t ∧ AtNext s t) ∧
    (s.el ≠ 0 →
      (Completes (.movec a d) s fun t => WroteE s t d (s.readC a) ∧ SameMemory s t ∧ SameRest s t ∧ AtNext s t) ∧
      (Completes (.mover a d) s fun t => WroteE s t d (s.readR a) ∧ SameMemory s t ∧ SameRest s t ∧ AtNext s t) ∧
      (Completes (.movre a d) s fun t => WroteR s t d (s.readE a) ∧ SameMemory s t ∧ SameRest s t ∧ AtNext s t))

/-- In every state, for every value: the exception registers 8 to 15 and 21 to 29 read 0, and a write to one changes nothing;
every other exception register reads as it is held, and a write sets all its 64 bits, but for INTS. The register fields of
instructions above EL0, and MOVEC, MOVER and MOVRE, read and write them in this way. Rests on: R30. -/
def Obligations.ReservedExceptionRegisters : Prop :=
  ∀ (s : State) (i j : Reg) (v : Word),
    (8 ≤ i.val ∧ i.val ≤ 15 ∨ 21 ≤ i.val ∧ i.val ≤ 29 → s.readE i = 0 ∧ s.writeE i v = s) ∧
    (¬(8 ≤ i.val ∧ i.val ≤ 15 ∨ 21 ≤ i.val ∧ i.val ≤ 29) →
      s.readE i = s.e[i] ∧ (i.val ≠ 19 → s.writeE i v = { s with e := s.e.set i v })) ∧
    (s.el ≠ 0 → s.readX i = s.readE i ∧ s.writeX i v = s.writeE i v ∧
      exec (.movec j i) s = .next ((s.writeE i (s.readC j)).advance) ∧
      exec (.mover j i) s = .next ((s.writeE i (s.readR j)).advance) ∧
      exec (.movre i j) s = .next ((s.writeR j (s.readE i)).advance))
end

