-- ==== Sys2Proof/Laws/Encoding.lean ====
section
/-! SUPPORT. The fields of every format: what the decoder reads out of a word that the encoder made. -/

namespace Sys2Proof

/-- A register number survives its five-bit field. -/
@[simp] theorem regOfBits_regBits (r : Reg) : regOfBits (regBits r) = r := by
  apply Fin.ext
  simp only [regOfBits, regBits, BitVec.toNat_ofNat]
  exact Nat.mod_eq_of_lt r.isLt

/-- The low part of two fields side by side. -/
theorem extract_low {n m : Nat} (x : BitVec n) (y : BitVec m) (s l : Nat) (h : s + l ≤ m) :
    (x ++ y).extractLsb' s l = y.extractLsb' s l := by
  apply BitVec.eq_of_getLsbD_eq
  intro k hk
  rw [BitVec.getLsbD_extractLsb', BitVec.getLsbD_append, BitVec.getLsbD_extractLsb']
  have : s + k < m := by omega
  simp [this]

/-- The high part of two fields side by side. -/
theorem extract_high {n m : Nat} (x : BitVec n) (y : BitVec m) (s l : Nat) (h : m ≤ s) :
    (x ++ y).extractLsb' s l = x.extractLsb' (s - m) l := by
  apply BitVec.eq_of_getLsbD_eq
  intro k hk
  rw [BitVec.getLsbD_extractLsb', BitVec.getLsbD_append, BitVec.getLsbD_extractLsb']
  have h1 : ¬s + k < m := by omega
  have h2 : s + k - m = s - m + k := by omega
  simp [h1, h2]

/-- A whole field. -/
theorem extract_all {n : Nat} (x : BitVec n) : x.extractLsb' 0 n = x := by
  apply BitVec.eq_of_getLsbD_eq
  intro k hk
  rw [BitVec.getLsbD_extractLsb']
  simp [hk]

/-! ### `formatJ` -/

@[simp] theorem fieldOp_formatJ (op : BitVec 6) (imm : BitVec 26) :
    fieldOp (formatJ op imm) = op := by
  unfold fieldOp formatJ
  rw [extract_high _ _ _ _ (by decide), extract_all]
@[simp] theorem fieldImm26_formatJ (op : BitVec 6) (imm : BitVec 26) :
    fieldImm26 (formatJ op imm) = imm := by
  unfold fieldImm26 formatJ
  rw [extract_low _ _ _ _ (by decide), extract_all]

/-! ### `formatB` -/

@[simp] theorem fieldOp_formatB (op : BitVec 6) (a b : Reg) (off : BitVec 16) :
    fieldOp (formatB op a b off) = op := by
  unfold fieldOp formatB
  rw [extract_high _ _ _ _ (by decide), extract_high _ _ _ _ (by decide), extract_high _ _ _ _ (by decide), extract_all]
@[simp] theorem fieldA_formatB (op : BitVec 6) (a b : Reg) (off : BitVec 16) :
    fieldA (formatB op a b off) = a := by
  unfold fieldA formatB
  rw [extract_high _ _ _ _ (by decide), extract_high _ _ _ _ (by decide), extract_low _ _ _ _ (by decide), extract_all]
  exact regOfBits_regBits _
@[simp] theorem fieldB_formatB (op : BitVec 6) (a b : Reg) (off : BitVec 16) :
    fieldB (formatB op a b off) = b := by
  unfold fieldB formatB
  rw [extract_high _ _ _ _ (by decide), extract_low _ _ _ _ (by decide), extract_all]
  exact regOfBits_regBits _
@[simp] theorem fieldOffset16_formatB (op : BitVec 6) (a b : Reg) (off : BitVec 16) :
    fieldOffset16 (formatB op a b off) = off := by
  unfold fieldOffset16 formatB
  rw [extract_low _ _ _ _ (by decide), extract_all]

/-! ### `formatBI` -/

@[simp] theorem fieldOp_formatBI (op : BitVec 6) (a : Reg) (imm : BitVec 5) (off : BitVec 16) :
    fieldOp (formatBI op a imm off) = op := by
  unfold fieldOp formatBI
  rw [extract_high _ _ _ _ (by decide), extract_high _ _ _ _ (by decide), extract_high _ _ _ _ (by decide), extract_all]
@[simp] theorem fieldA_formatBI (op : BitVec 6) (a : Reg) (imm : BitVec 5) (off : BitVec 16) :
    fieldA (formatBI op a imm off) = a := by
  unfold fieldA formatBI
  rw [extract_high _ _ _ _ (by decide), extract_high _ _ _ _ (by decide), extract_low _ _ _ _ (by decide), extract_all]
  exact regOfBits_regBits _
@[simp] theorem fieldUImm5_formatBI (op : BitVec 6) (a : Reg) (imm : BitVec 5) (off : BitVec 16) :
    fieldUImm5 (formatBI op a imm off) = imm := by
  unfold fieldUImm5 formatBI
  rw [extract_high _ _ _ _ (by decide), extract_low _ _ _ _ (by decide), extract_all]
@[simp] theorem fieldOffset16_formatBI (op : BitVec 6) (a : Reg) (imm : BitVec 5) (off : BitVec 16) :
    fieldOffset16 (formatBI op a imm off) = off := by
  unfold fieldOffset16 formatBI
  rw [extract_low _ _ _ _ (by decide), extract_all]

/-! ### `formatI` -/

@[simp] theorem fieldOp_formatI (op : BitVec 6) (f : BitVec 4) (a b : Reg) (imm : BitVec 12) :
    fieldOp (formatI op f a b imm) = op := by
  unfold fieldOp formatI
  rw [extract_high _ _ _ _ (by decide), extract_high _ _ _ _ (by decide), extract_high _ _ _ _ (by decide), extract_high _ _ _ _ (by decide), extract_all]
@[simp] theorem fieldA_formatI (op : BitVec 6) (f : BitVec 4) (a b : Reg) (imm : BitVec 12) :
    fieldA (formatI op f a b imm) = a := by
  unfold fieldA formatI
  rw [extract_high _ _ _ _ (by decide), extract_high _ _ _ _ (by decide), extract_high _ _ _ _ (by decide), extract_low _ _ _ _ (by decide), extract_all]
  exact regOfBits_regBits _
@[simp] theorem fieldB_formatI (op : BitVec 6) (f : BitVec 4) (a b : Reg) (imm : BitVec 12) :
    fieldB (formatI op f a b imm) = b := by
  unfold fieldB formatI
  rw [extract_high _ _ _ _ (by decide), extract_high _ _ _ _ (by decide), extract_low _ _ _ _ (by decide), extract_all]
  exact regOfBits_regBits _
@[simp] theorem fieldF_formatI (op : BitVec 6) (f : BitVec 4) (a b : Reg) (imm : BitVec 12) :
    fieldF (formatI op f a b imm) = f := by
  unfold fieldF formatI
  rw [extract_high _ _ _ _ (by decide), extract_low _ _ _ _ (by decide), extract_all]
@[simp] theorem fieldImm12_formatI (op : BitVec 6) (f : BitVec 4) (a b : Reg) (imm : BitVec 12) :
    fieldImm12 (formatI op f a b imm) = imm := by
  unfold fieldImm12 formatI
  rw [extract_low _ _ _ _ (by decide), extract_all]

/-! ### `formatShift` -/

@[simp] theorem fieldOp_formatShift (op : BitVec 6) (f : BitVec 4) (a b : Reg) (l r : Nat) :
    fieldOp (formatShift op f a b l r) = op := by
  unfold fieldOp formatShift
  rw [extract_high _ _ _ _ (by decide), extract_high _ _ _ _ (by decide), extract_high _ _ _ _ (by decide), extract_high _ _ _ _ (by decide), extract_high _ _ _ _ (by decide), extract_all]
@[simp] theorem fieldA_formatShift (op : BitVec 6) (f : BitVec 4) (a b : Reg) (l r : Nat) :
    fieldA (formatShift op f a b l r) = a := by
  unfold fieldA formatShift
  rw [extract_high _ _ _ _ (by decide), extract_high _ _ _ _ (by decide), extract_high _ _ _ _ (by decide), extract_high _ _ _ _ (by decide), extract_low _ _ _ _ (by decide), extract_all]
  exact regOfBits_regBits _
@[simp] theorem fieldB_formatShift (op : BitVec 6) (f : BitVec 4) (a b : Reg) (l r : Nat) :
    fieldB (formatShift op f a b l r) = b := by
  unfold fieldB formatShift
  rw [extract_high _ _ _ _ (by decide), extract_high _ _ _ _ (by decide), extract_high _ _ _ _ (by decide), extract_low _ _ _ _ (by decide), extract_all]
  exact regOfBits_regBits _
@[simp] theorem fieldF_formatShift (op : BitVec 6) (f : BitVec 4) (a b : Reg) (l r : Nat) :
    fieldF (formatShift op f a b l r) = f := by
  unfold fieldF formatShift
  rw [extract_high _ _ _ _ (by decide), extract_high _ _ _ _ (by decide), extract_low _ _ _ _ (by decide), extract_all]
@[simp] theorem fieldL_formatShift (op : BitVec 6) (f : BitVec 4) (a b : Reg) (l r : Nat) :
    fieldL (formatShift op f a b l r) = BitVec.ofNat 6 l := by
  unfold fieldL formatShift
  rw [extract_high _ _ _ _ (by decide), extract_low _ _ _ _ (by decide), extract_all]
@[simp] theorem fieldR_formatShift (op : BitVec 6) (f : BitVec 4) (a b : Reg) (l r : Nat) :
    fieldR (formatShift op f a b l r) = BitVec.ofNat 6 r := by
  unfold fieldR formatShift
  rw [extract_low _ _ _ _ (by decide), extract_all]

/-! ### `formatR` -/

@[simp] theorem fieldOp_formatR (op : BitVec 6) (f : BitVec 4) (x : BitVec 2) (a b c d : Reg) :
    fieldOp (formatR op f x a b c d) = op := by
  unfold fieldOp formatR
  rw [extract_high _ _ _ _ (by decide), extract_high _ _ _ _ (by decide), extract_high _ _ _ _ (by decide), extract_high _ _ _ _ (by decide), extract_high _ _ _ _ (by decide), extract_high _ _ _ _ (by decide), extract_all]
@[simp] theorem fieldA_formatR (op : BitVec 6) (f : BitVec 4) (x : BitVec 2) (a b c d : Reg) :
    fieldA (formatR op f x a b c d) = a := by
  unfold fieldA formatR
  rw [extract_high _ _ _ _ (by decide), extract_high _ _ _ _ (by decide), extract_high _ _ _ _ (by decide), extract_high _ _ _ _ (by decide), extract_high _ _ _ _ (by decide), extract_low _ _ _ _ (by decide), extract_all]
  exact regOfBits_regBits _
@[simp] theorem fieldB_formatR (op : BitVec 6) (f : BitVec 4) (x : BitVec 2) (a b c d : Reg) :
    fieldB (formatR op f x a b c d) = b := by
  unfold fieldB formatR
  rw [extract_high _ _ _ _ (by decide), extract_high _ _ _ _ (by decide), extract_high _ _ _ _ (by decide), extract_high _ _ _ _ (by decide), extract_low _ _ _ _ (by decide), extract_all]
  exact regOfBits_regBits _
@[simp] theorem fieldF_formatR (op : BitVec 6) (f : BitVec 4) (x : BitVec 2) (a b c d : Reg) :
    fieldF (formatR op f x a b c d) = f := by
  unfold fieldF formatR
  rw [extract_high _ _ _ _ (by decide), extract_high _ _ _ _ (by decide), extract_high _ _ _ _ (by decide), extract_low _ _ _ _ (by decide), extract_all]
@[simp] theorem fieldX_formatR (op : BitVec 6) (f : BitVec 4) (x : BitVec 2) (a b c d : Reg) :
    fieldX (formatR op f x a b c d) = x := by
  unfold fieldX formatR
  rw [extract_high _ _ _ _ (by decide), extract_high _ _ _ _ (by decide), extract_low _ _ _ _ (by decide), extract_all]
@[simp] theorem fieldC_formatR (op : BitVec 6) (f : BitVec 4) (x : BitVec 2) (a b c d : Reg) :
    fieldC (formatR op f x a b c d) = c := by
  unfold fieldC formatR
  rw [extract_high _ _ _ _ (by decide), extract_low _ _ _ _ (by decide), extract_all]
  exact regOfBits_regBits _
@[simp] theorem fieldD_formatR (op : BitVec 6) (f : BitVec 4) (x : BitVec 2) (a b c d : Reg) :
    fieldD (formatR op f x a b c d) = d := by
  unfold fieldD formatR
  rw [extract_low _ _ _ _ (by decide), extract_all]
  exact regOfBits_regBits _

/-! ### `formatFP` -/

@[simp] theorem fieldOp_formatFP (op : BitVec 6) (f : BitVec 5) (p : BitVec 1) (a b c d : Reg) :
    fieldOp (formatFP op f p a b c d) = op := by
  unfold fieldOp formatFP
  rw [extract_high _ _ _ _ (by decide), extract_high _ _ _ _ (by decide), extract_high _ _ _ _ (by decide), extract_high _ _ _ _ (by decide), extract_high _ _ _ _ (by decide), extract_high _ _ _ _ (by decide), extract_all]
@[simp] theorem fieldA_formatFP (op : BitVec 6) (f : BitVec 5) (p : BitVec 1) (a b c d : Reg) :
    fieldA (formatFP op f p a b c d) = a := by
  unfold fieldA formatFP
  rw [extract_high _ _ _ _ (by decide), extract_high _ _ _ _ (by decide), extract_high _ _ _ _ (by decide), extract_high _ _ _ _ (by decide), extract_high _ _ _ _ (by decide), extract_low _ _ _ _ (by decide), extract_all]
  exact regOfBits_regBits _
@[simp] theorem fieldB_formatFP (op : BitVec 6) (f : BitVec 5) (p : BitVec 1) (a b c d : Reg) :
    fieldB (formatFP op f p a b c d) = b := by
  unfold fieldB formatFP
  rw [extract_high _ _ _ _ (by decide), extract_high _ _ _ _ (by decide), extract_high _ _ _ _ (by decide), extract_high _ _ _ _ (by decide), extract_low _ _ _ _ (by decide), extract_all]
  exact regOfBits_regBits _
@[simp] theorem fieldFpF_formatFP (op : BitVec 6) (f : BitVec 5) (p : BitVec 1) (a b c d : Reg) :
    fieldFpF (formatFP op f p a b c d) = f := by
  unfold fieldFpF formatFP
  rw [extract_high _ _ _ _ (by decide), extract_high _ _ _ _ (by decide), extract_high _ _ _ _ (by decide), extract_low _ _ _ _ (by decide), extract_all]
@[simp] theorem fieldP_formatFP (op : BitVec 6) (f : BitVec 5) (p : BitVec 1) (a b c d : Reg) :
    fieldP (formatFP op f p a b c d) = p := by
  unfold fieldP formatFP
  rw [extract_high _ _ _ _ (by decide), extract_high _ _ _ _ (by decide), extract_low _ _ _ _ (by decide), extract_all]
@[simp] theorem fieldC_formatFP (op : BitVec 6) (f : BitVec 5) (p : BitVec 1) (a b c d : Reg) :
    fieldC (formatFP op f p a b c d) = c := by
  unfold fieldC formatFP
  rw [extract_high _ _ _ _ (by decide), extract_low _ _ _ _ (by decide), extract_all]
  exact regOfBits_regBits _
@[simp] theorem fieldD_formatFP (op : BitVec 6) (f : BitVec 5) (p : BitVec 1) (a b c d : Reg) :
    fieldD (formatFP op f p a b c d) = d := by
  unfold fieldD formatFP
  rw [extract_low _ _ _ _ (by decide), extract_all]
  exact regOfBits_regBits _

/-! ### Where the decoder goes for every opcode (R108) -/

/-- An opcode that some table defines is not NOP's, whatever `OP_NOP` is (R97). -/
theorem ne_nopCode {op : BitVec 6} (nop : Config.NopCode) (h : op ∉ Config.freeOpcodes) : op ≠ nop.code :=
  fun he => h (he ▸ nop.isFree)

/-- NOP's opcode is NOP. -/
theorem decode_nop {nop : Config.NopCode} {w : BitVec 32} (h : fieldOp w = nop.code) : decode nop w = .ok (.nop (fieldImm26 w)) := by
  rw [decode, if_pos h]

/-- An opcode that is not NOP's goes to the opcode table. -/
theorem decode_of_ne {nop : Config.NopCode} {w : BitVec 32} (h : fieldOp w ≠ nop.code) : decode nop w = decodeOpcode w := by
  rw [decode, if_neg h]

theorem decode_load (nop : Config.NopCode) {w : BitVec 32} (h : fieldOp w = 24) : decode nop w = decodeLoad w := by
  rw [decode_of_ne (by rw [h]; exact ne_nopCode nop (by decide)), decodeOpcode, h]; rfl
theorem decode_store (nop : Config.NopCode) {w : BitVec 32} (h : fieldOp w = 25) : decode nop w = decodeStore w := by
  rw [decode_of_ne (by rw [h]; exact ne_nopCode nop (by decide)), decodeOpcode, h]; rfl
theorem decode_loadX (nop : Config.NopCode) {w : BitVec 32} (h : fieldOp w = 26) : decode nop w = decodeLoadX w := by
  rw [decode_of_ne (by rw [h]; exact ne_nopCode nop (by decide)), decodeOpcode, h]; rfl
theorem decode_storX (nop : Config.NopCode) {w : BitVec 32} (h : fieldOp w = 27) : decode nop w = decodeStorX w := by
  rw [decode_of_ne (by rw [h]; exact ne_nopCode nop (by decide)), decodeOpcode, h]; rfl
theorem decode_alui (nop : Config.NopCode) {w : BitVec 32} (h : fieldOp w = 32) : decode nop w = decodeAlui w := by
  rw [decode_of_ne (by rw [h]; exact ne_nopCode nop (by decide)), decodeOpcode, h]; rfl
theorem decode_alui1 (nop : Config.NopCode) {w : BitVec 32} (h : fieldOp w = 33) : decode nop w = decodeAlui1 w := by
  rw [decode_of_ne (by rw [h]; exact ne_nopCode nop (by decide)), decodeOpcode, h]; rfl
theorem decode_alui2 (nop : Config.NopCode) {w : BitVec 32} (h : fieldOp w = 34) : decode nop w = decodeAlui2 w := by
  rw [decode_of_ne (by rw [h]; exact ne_nopCode nop (by decide)), decodeOpcode, h]; rfl
theorem decode_alui3 (nop : Config.NopCode) {w : BitVec 32} (h : fieldOp w = 35) : decode nop w = decodeAlui3 w := by
  rw [decode_of_ne (by rw [h]; exact ne_nopCode nop (by decide)), decodeOpcode, h]; rfl
theorem decode_ret (nop : Config.NopCode) {w : BitVec 32} (h : fieldOp w = 36) : decode nop w = decodeRet w := by
  rw [decode_of_ne (by rw [h]; exact ne_nopCode nop (by decide)), decodeOpcode, h]; rfl
theorem decode_shift (nop : Config.NopCode) {w : BitVec 32} (h : fieldOp w = 37) : decode nop w = decodeShift w := by
  rw [decode_of_ne (by rw [h]; exact ne_nopCode nop (by decide)), decodeOpcode, h]; rfl
theorem decode_alu (nop : Config.NopCode) {w : BitVec 32} (h : fieldOp w = 40) : decode nop w = decodeAlu w := by
  rw [decode_of_ne (by rw [h]; exact ne_nopCode nop (by decide)), decodeOpcode, h]; rfl
theorem decode_alu3 (nop : Config.NopCode) {w : BitVec 32} (h : fieldOp w = 41) : decode nop w = decodeAlu3 w := by
  rw [decode_of_ne (by rw [h]; exact ne_nopCode nop (by decide)), decodeOpcode, h]; rfl
theorem decode_fpu1 (nop : Config.NopCode) {w : BitVec 32} (h : fieldOp w = 42) : decode nop w = decodeFpu1 w := by
  rw [decode_of_ne (by rw [h]; exact ne_nopCode nop (by decide)), decodeOpcode, h]; rfl
theorem decode_fpu2 (nop : Config.NopCode) {w : BitVec 32} (h : fieldOp w = 43) : decode nop w = decodeFpu2 w := by
  rw [decode_of_ne (by rw [h]; exact ne_nopCode nop (by decide)), decodeOpcode, h]; rfl
theorem decode_fpu3 (nop : Config.NopCode) {w : BitVec 32} (h : fieldOp w = 44) : decode nop w = decodeFpu3 w := by
  rw [decode_of_ne (by rw [h]; exact ne_nopCode nop (by decide)), decodeOpcode, h]; rfl
theorem decode_sys (nop : Config.NopCode) {w : BitVec 32} (h : fieldOp w = 60) : decode nop w = decodeSys w := by
  rw [decode_of_ne (by rw [h]; exact ne_nopCode nop (by decide)), decodeOpcode, h]; rfl
theorem decode_mov (nop : Config.NopCode) {w : BitVec 32} (h : fieldOp w = 61) : decode nop w = decodeMov w := by
  rw [decode_of_ne (by rw [h]; exact ne_nopCode nop (by decide)), decodeOpcode, h]; rfl

end Sys2Proof
end

