-- ==== Sys2Proof/Laws/State.lean ====
section
/-! SUPPORT. One lemma per field for every update of the state, so that no later proof unfolds a record update. -/

namespace Sys2Proof.Machine

open Sys2Proof

/-- The low field of a 64-bit register made of an address and a level. -/
theorem append_low_bits (a : BitVec 62) (l : BitVec 2) : (a ++ l).extractLsb' 0 2 = l := by
  apply BitVec.eq_of_getLsbD_eq
  intro k hk
  rw [BitVec.getLsbD_extractLsb', BitVec.getLsbD_append]
  simp [hk]

/-- The high field of a 64-bit register made of an address and a level. -/
theorem append_high_bits (a : BitVec 62) (l : BitVec 2) : (a ++ l).extractLsb' 2 62 = a := by
  apply BitVec.eq_of_getLsbD_eq
  intro k hk
  rw [BitVec.getLsbD_extractLsb', BitVec.getLsbD_append]
  simp [hk]
  omega

/-! ### `State.setAddr` -/

@[simp] theorem State.setAddr_r (s : State) (a : BitVec 62) : (s.setAddr a).r = s.r := rfl
@[simp] theorem State.setAddr_e (s : State) (a : BitVec 62) : (s.setAddr a).e = s.e := rfl
@[simp] theorem State.setAddr_c (s : State) (a : BitVec 62) : (s.setAddr a).c = s.c := rfl
@[simp] theorem State.setAddr_mem (s : State) (a : BitVec 62) : (s.setAddr a).mem = s.mem := rfl
@[simp] theorem State.setAddr_addrBits (s : State) (a : BitVec 62) : (s.setAddr a).addrBits = s.addrBits := rfl
@[simp] theorem State.setAddr_nopCode (s : State) (a : BitVec 62) : (s.setAddr a).nopCode = s.nopCode := rfl
@[simp] theorem State.setAddr_counterImpl (s : State) (a : BitVec 62) : (s.setAddr a).counterImpl = s.counterImpl := rfl
@[simp] theorem State.setAddr_fpInstance (s : State) (a : BitVec 62) : (s.setAddr a).fpInstance = s.fpInstance := rfl
@[simp] theorem State.setAddr_denied (s : State) (a : BitVec 62) : (s.setAddr a).denied = s.denied := rfl
@[simp] theorem State.setAddr_irqSources (s : State) (a : BitVec 62) : (s.setAddr a).irqSources = s.irqSources := rfl
@[simp] theorem State.setAddr_irqInstance (s : State) (a : BitVec 62) : (s.setAddr a).irqInstance = s.irqInstance := rfl
@[simp] theorem State.setAddr_irqAtEl1 (s : State) (a : BitVec 62) : (s.setAddr a).irqAtEl1 = s.irqAtEl1 := rfl
@[simp] theorem State.setAddr_irqInputs (s : State) (a : BitVec 62) : (s.setAddr a).irqInputs = s.irqInputs := rfl
@[simp] theorem State.setAddr_draws (s : State) (a : BitVec 62) : (s.setAddr a).draws = s.draws := rfl
@[simp] theorem State.setAddr_el (s : State) (a : BitVec 62) : (s.setAddr a).el = s.el := by
  simp [State.setAddr, State.el, append_low_bits]
@[simp] theorem State.setAddr_pcAddr (s : State) (a : BitVec 62) : (s.setAddr a).pcAddr = a := by
  simp [State.setAddr, State.pcAddr, append_high_bits]
@[simp] theorem State.setAddr_readR (s : State) (a : BitVec 62) (i : Reg) : (s.setAddr a).readR i = s.readR i := rfl
@[simp] theorem State.setAddr_readE (s : State) (a : BitVec 62) (i : Reg) : (s.setAddr a).readE i = s.readE i := rfl
@[simp] theorem State.setAddr_readC (s : State) (a : BitVec 62) (i : Reg) : (s.setAddr a).readC i = s.readC i := rfl
@[simp] theorem State.setAddr_readX (s : State) (a : BitVec 62) (i : Reg) : (s.setAddr a).readX i = s.readX i := by
  simp [State.readX]

/-! ### `State.jump` -/

@[simp] theorem State.jump_r (s : State) (a : Word) : (s.jump a).r = s.r := rfl
@[simp] theorem State.jump_e (s : State) (a : Word) : (s.jump a).e = s.e := rfl
@[simp] theorem State.jump_c (s : State) (a : Word) : (s.jump a).c = s.c := rfl
@[simp] theorem State.jump_mem (s : State) (a : Word) : (s.jump a).mem = s.mem := rfl
@[simp] theorem State.jump_addrBits (s : State) (a : Word) : (s.jump a).addrBits = s.addrBits := rfl
@[simp] theorem State.jump_nopCode (s : State) (a : Word) : (s.jump a).nopCode = s.nopCode := rfl
@[simp] theorem State.jump_counterImpl (s : State) (a : Word) : (s.jump a).counterImpl = s.counterImpl := rfl
@[simp] theorem State.jump_fpInstance (s : State) (a : Word) : (s.jump a).fpInstance = s.fpInstance := rfl
@[simp] theorem State.jump_denied (s : State) (a : Word) : (s.jump a).denied = s.denied := rfl
@[simp] theorem State.jump_irqSources (s : State) (a : Word) : (s.jump a).irqSources = s.irqSources := rfl
@[simp] theorem State.jump_irqInstance (s : State) (a : Word) : (s.jump a).irqInstance = s.irqInstance := rfl
@[simp] theorem State.jump_irqAtEl1 (s : State) (a : Word) : (s.jump a).irqAtEl1 = s.irqAtEl1 := rfl
@[simp] theorem State.jump_irqInputs (s : State) (a : Word) : (s.jump a).irqInputs = s.irqInputs := rfl
@[simp] theorem State.jump_draws (s : State) (a : Word) : (s.jump a).draws = s.draws := rfl
@[simp] theorem State.jump_el (s : State) (a : Word) : (s.jump a).el = s.el := State.setAddr_el s _
@[simp] theorem State.jump_readR (s : State) (a : Word) (i : Reg) : (s.jump a).readR i = s.readR i := rfl
@[simp] theorem State.jump_readE (s : State) (a : Word) (i : Reg) : (s.jump a).readE i = s.readE i := rfl
@[simp] theorem State.jump_readC (s : State) (a : Word) (i : Reg) : (s.jump a).readC i = s.readC i := rfl
@[simp] theorem State.jump_readX (s : State) (a : Word) (i : Reg) : (s.jump a).readX i = s.readX i := State.setAddr_readX s _ i

/-! ### `State.advance` -/

@[simp] theorem State.advance_r (s : State) : (s.advance).r = s.r := rfl
@[simp] theorem State.advance_e (s : State) : (s.advance).e = s.e := rfl
@[simp] theorem State.advance_c (s : State) : (s.advance).c = s.c := rfl
@[simp] theorem State.advance_mem (s : State) : (s.advance).mem = s.mem := rfl
@[simp] theorem State.advance_addrBits (s : State) : (s.advance).addrBits = s.addrBits := rfl
@[simp] theorem State.advance_nopCode (s : State) : (s.advance).nopCode = s.nopCode := rfl
@[simp] theorem State.advance_counterImpl (s : State) : (s.advance).counterImpl = s.counterImpl := rfl
@[simp] theorem State.advance_fpInstance (s : State) : (s.advance).fpInstance = s.fpInstance := rfl
@[simp] theorem State.advance_denied (s : State) : (s.advance).denied = s.denied := rfl
@[simp] theorem State.advance_irqSources (s : State) : (s.advance).irqSources = s.irqSources := rfl
@[simp] theorem State.advance_irqInstance (s : State) : (s.advance).irqInstance = s.irqInstance := rfl
@[simp] theorem State.advance_irqAtEl1 (s : State) : (s.advance).irqAtEl1 = s.irqAtEl1 := rfl
@[simp] theorem State.advance_irqInputs (s : State) : (s.advance).irqInputs = s.irqInputs := rfl
@[simp] theorem State.advance_draws (s : State) : (s.advance).draws = s.draws := rfl
@[simp] theorem State.advance_el (s : State) : (s.advance).el = s.el := State.setAddr_el s _
@[simp] theorem State.advance_readR (s : State) (i : Reg) : (s.advance).readR i = s.readR i := rfl
@[simp] theorem State.advance_readE (s : State) (i : Reg) : (s.advance).readE i = s.readE i := rfl
@[simp] theorem State.advance_readC (s : State) (i : Reg) : (s.advance).readC i = s.readC i := rfl
@[simp] theorem State.advance_readX (s : State) (i : Reg) : (s.advance).readX i = s.readX i := State.setAddr_readX s _ i

/-! ### `State.writeR` -/

@[simp] theorem State.writeR_pc (s : State) (d : Reg) (v : Word) : (s.writeR d v).pc = s.pc := rfl
@[simp] theorem State.writeR_e (s : State) (d : Reg) (v : Word) : (s.writeR d v).e = s.e := rfl
@[simp] theorem State.writeR_c (s : State) (d : Reg) (v : Word) : (s.writeR d v).c = s.c := rfl
@[simp] theorem State.writeR_mem (s : State) (d : Reg) (v : Word) : (s.writeR d v).mem = s.mem := rfl
@[simp] theorem State.writeR_addrBits (s : State) (d : Reg) (v : Word) : (s.writeR d v).addrBits = s.addrBits := rfl
@[simp] theorem State.writeR_nopCode (s : State) (d : Reg) (v : Word) : (s.writeR d v).nopCode = s.nopCode := rfl
@[simp] theorem State.writeR_counterImpl (s : State) (d : Reg) (v : Word) : (s.writeR d v).counterImpl = s.counterImpl := rfl
@[simp] theorem State.writeR_fpInstance (s : State) (d : Reg) (v : Word) : (s.writeR d v).fpInstance = s.fpInstance := rfl
@[simp] theorem State.writeR_denied (s : State) (d : Reg) (v : Word) : (s.writeR d v).denied = s.denied := rfl
@[simp] theorem State.writeR_irqSources (s : State) (d : Reg) (v : Word) : (s.writeR d v).irqSources = s.irqSources := rfl
@[simp] theorem State.writeR_irqInstance (s : State) (d : Reg) (v : Word) : (s.writeR d v).irqInstance = s.irqInstance := rfl
@[simp] theorem State.writeR_irqAtEl1 (s : State) (d : Reg) (v : Word) : (s.writeR d v).irqAtEl1 = s.irqAtEl1 := rfl
@[simp] theorem State.writeR_irqInputs (s : State) (d : Reg) (v : Word) : (s.writeR d v).irqInputs = s.irqInputs := rfl
@[simp] theorem State.writeR_draws (s : State) (d : Reg) (v : Word) : (s.writeR d v).draws = s.draws := rfl
@[simp] theorem State.writeR_el (s : State) (d : Reg) (v : Word) : (s.writeR d v).el = s.el := rfl
@[simp] theorem State.writeR_pcAddr (s : State) (d : Reg) (v : Word) : (s.writeR d v).pcAddr = s.pcAddr := rfl
@[simp] theorem State.writeR_pcByte (s : State) (d : Reg) (v : Word) : (s.writeR d v).pcByte = s.pcByte := rfl
@[simp] theorem State.writeR_readE (s : State) (d : Reg) (v : Word) (i : Reg) : (s.writeR d v).readE i = s.readE i := rfl
@[simp] theorem State.writeR_readC (s : State) (d : Reg) (v : Word) (i : Reg) : (s.writeR d v).readC i = s.readC i := rfl

/-! ### `State.writeE` -/

@[simp] theorem State.writeE_r (s : State) (d : Reg) (v : Word) : (s.writeE d v).r = s.r := by
  unfold State.writeE; split <;> rfl
@[simp] theorem State.writeE_pc (s : State) (d : Reg) (v : Word) : (s.writeE d v).pc = s.pc := by
  unfold State.writeE; split <;> rfl
@[simp] theorem State.writeE_c (s : State) (d : Reg) (v : Word) : (s.writeE d v).c = s.c := by
  unfold State.writeE; split <;> rfl
@[simp] theorem State.writeE_mem (s : State) (d : Reg) (v : Word) : (s.writeE d v).mem = s.mem := by
  unfold State.writeE; split <;> rfl
@[simp] theorem State.writeE_addrBits (s : State) (d : Reg) (v : Word) : (s.writeE d v).addrBits = s.addrBits := by
  unfold State.writeE; split <;> rfl
@[simp] theorem State.writeE_nopCode (s : State) (d : Reg) (v : Word) : (s.writeE d v).nopCode = s.nopCode := by
  unfold State.writeE; split <;> rfl
@[simp] theorem State.writeE_counterImpl (s : State) (d : Reg) (v : Word) : (s.writeE d v).counterImpl = s.counterImpl := by
  unfold State.writeE; split <;> rfl
@[simp] theorem State.writeE_fpInstance (s : State) (d : Reg) (v : Word) : (s.writeE d v).fpInstance = s.fpInstance := by
  unfold State.writeE; split <;> rfl
@[simp] theorem State.writeE_denied (s : State) (d : Reg) (v : Word) : (s.writeE d v).denied = s.denied := by
  unfold State.writeE; split <;> rfl
@[simp] theorem State.writeE_irqSources (s : State) (d : Reg) (v : Word) : (s.writeE d v).irqSources = s.irqSources := by
  unfold State.writeE; split <;> rfl
@[simp] theorem State.writeE_irqInstance (s : State) (d : Reg) (v : Word) : (s.writeE d v).irqInstance = s.irqInstance := by
  unfold State.writeE; split <;> rfl
@[simp] theorem State.writeE_irqAtEl1 (s : State) (d : Reg) (v : Word) : (s.writeE d v).irqAtEl1 = s.irqAtEl1 := by
  unfold State.writeE; split <;> rfl
@[simp] theorem State.writeE_irqInputs (s : State) (d : Reg) (v : Word) : (s.writeE d v).irqInputs = s.irqInputs := by
  unfold State.writeE; split <;> rfl
@[simp] theorem State.writeE_draws (s : State) (d : Reg) (v : Word) : (s.writeE d v).draws = s.draws := by
  unfold State.writeE; split <;> rfl
@[simp] theorem State.writeE_el (s : State) (d : Reg) (v : Word) : (s.writeE d v).el = s.el := by
  unfold State.writeE; split <;> rfl
@[simp] theorem State.writeE_pcAddr (s : State) (d : Reg) (v : Word) : (s.writeE d v).pcAddr = s.pcAddr := by
  unfold State.writeE; split <;> rfl
@[simp] theorem State.writeE_pcByte (s : State) (d : Reg) (v : Word) : (s.writeE d v).pcByte = s.pcByte := by
  unfold State.writeE; split <;> rfl
@[simp] theorem State.writeE_readR (s : State) (d : Reg) (v : Word) (i : Reg) : (s.writeE d v).readR i = s.readR i := by
  unfold State.writeE; split <;> rfl
@[simp] theorem State.writeE_readC (s : State) (d : Reg) (v : Word) (i : Reg) : (s.writeE d v).readC i = s.readC i := by
  unfold State.writeE; split <;> rfl

/-! ### `State.writeX` -/

@[simp] theorem State.writeX_pc (s : State) (d : Reg) (v : Word) : (s.writeX d v).pc = s.pc := by
  unfold State.writeX; split <;> simp
@[simp] theorem State.writeX_c (s : State) (d : Reg) (v : Word) : (s.writeX d v).c = s.c := by
  unfold State.writeX; split <;> simp
@[simp] theorem State.writeX_mem (s : State) (d : Reg) (v : Word) : (s.writeX d v).mem = s.mem := by
  unfold State.writeX; split <;> simp
@[simp] theorem State.writeX_addrBits (s : State) (d : Reg) (v : Word) : (s.writeX d v).addrBits = s.addrBits := by
  unfold State.writeX; split <;> simp
@[simp] theorem State.writeX_nopCode (s : State) (d : Reg) (v : Word) : (s.writeX d v).nopCode = s.nopCode := by
  unfold State.writeX; split <;> simp
@[simp] theorem State.writeX_counterImpl (s : State) (d : Reg) (v : Word) : (s.writeX d v).counterImpl = s.counterImpl := by
  unfold State.writeX; split <;> simp
@[simp] theorem State.writeX_fpInstance (s : State) (d : Reg) (v : Word) : (s.writeX d v).fpInstance = s.fpInstance := by
  unfold State.writeX; split <;> simp
@[simp] theorem State.writeX_denied (s : State) (d : Reg) (v : Word) : (s.writeX d v).denied = s.denied := by
  unfold State.writeX; split <;> simp
@[simp] theorem State.writeX_irqSources (s : State) (d : Reg) (v : Word) : (s.writeX d v).irqSources = s.irqSources := by
  unfold State.writeX; split <;> simp
@[simp] theorem State.writeX_irqInstance (s : State) (d : Reg) (v : Word) : (s.writeX d v).irqInstance = s.irqInstance := by
  unfold State.writeX; split <;> simp
@[simp] theorem State.writeX_irqAtEl1 (s : State) (d : Reg) (v : Word) : (s.writeX d v).irqAtEl1 = s.irqAtEl1 := by
  unfold State.writeX; split <;> simp
@[simp] theorem State.writeX_irqInputs (s : State) (d : Reg) (v : Word) : (s.writeX d v).irqInputs = s.irqInputs := by
  unfold State.writeX; split <;> simp
@[simp] theorem State.writeX_draws (s : State) (d : Reg) (v : Word) : (s.writeX d v).draws = s.draws := by
  unfold State.writeX; split <;> simp
@[simp] theorem State.writeX_el (s : State) (d : Reg) (v : Word) : (s.writeX d v).el = s.el := by
  unfold State.writeX; split <;> simp
@[simp] theorem State.writeX_pcAddr (s : State) (d : Reg) (v : Word) : (s.writeX d v).pcAddr = s.pcAddr := by
  unfold State.writeX; split <;> simp
@[simp] theorem State.writeX_pcByte (s : State) (d : Reg) (v : Word) : (s.writeX d v).pcByte = s.pcByte := by
  unfold State.writeX; split <;> simp
@[simp] theorem State.writeX_readC (s : State) (d : Reg) (v : Word) (i : Reg) : (s.writeX d v).readC i = s.readC i := by
  unfold State.writeX; split <;> simp

/-! ### `State.result` -/

@[simp] theorem State.result_c (s : State) (d : Reg) (v : Word) : (s.result d v).c = s.c := by
  simp [State.result]
@[simp] theorem State.result_mem (s : State) (d : Reg) (v : Word) : (s.result d v).mem = s.mem := by
  simp [State.result]
@[simp] theorem State.result_addrBits (s : State) (d : Reg) (v : Word) : (s.result d v).addrBits = s.addrBits := by
  simp [State.result]
@[simp] theorem State.result_nopCode (s : State) (d : Reg) (v : Word) : (s.result d v).nopCode = s.nopCode := by
  simp [State.result]
@[simp] theorem State.result_counterImpl (s : State) (d : Reg) (v : Word) : (s.result d v).counterImpl = s.counterImpl := by
  simp [State.result]
@[simp] theorem State.result_fpInstance (s : State) (d : Reg) (v : Word) : (s.result d v).fpInstance = s.fpInstance := by
  simp [State.result]
@[simp] theorem State.result_denied (s : State) (d : Reg) (v : Word) : (s.result d v).denied = s.denied := by
  simp [State.result]
@[simp] theorem State.result_irqSources (s : State) (d : Reg) (v : Word) : (s.result d v).irqSources = s.irqSources := by
  simp [State.result]
@[simp] theorem State.result_irqInstance (s : State) (d : Reg) (v : Word) : (s.result d v).irqInstance = s.irqInstance := by
  simp [State.result]
@[simp] theorem State.result_irqAtEl1 (s : State) (d : Reg) (v : Word) : (s.result d v).irqAtEl1 = s.irqAtEl1 := by
  simp [State.result]
@[simp] theorem State.result_irqInputs (s : State) (d : Reg) (v : Word) : (s.result d v).irqInputs = s.irqInputs := by
  simp [State.result]
@[simp] theorem State.result_draws (s : State) (d : Reg) (v : Word) : (s.result d v).draws = s.draws := by
  simp [State.result]
@[simp] theorem State.result_el (s : State) (d : Reg) (v : Word) : (s.result d v).el = s.el := by
  simp [State.result]
@[simp] theorem State.result_readC (s : State) (d : Reg) (v : Word) (i : Reg) : (s.result d v).readC i = s.readC i := by
  simp [State.result]

/-! ### `State.enter` -/

@[simp] theorem State.enter_r (s : State) (k : ExceptionType) (code : Word) (bad : Option Word) : (s.enter k code bad).r = s.r := rfl
@[simp] theorem State.enter_c (s : State) (k : ExceptionType) (code : Word) (bad : Option Word) : (s.enter k code bad).c = s.c := rfl
@[simp] theorem State.enter_mem (s : State) (k : ExceptionType) (code : Word) (bad : Option Word) : (s.enter k code bad).mem = s.mem := rfl
@[simp] theorem State.enter_addrBits (s : State) (k : ExceptionType) (code : Word) (bad : Option Word) : (s.enter k code bad).addrBits = s.addrBits := rfl
@[simp] theorem State.enter_nopCode (s : State) (k : ExceptionType) (code : Word) (bad : Option Word) : (s.enter k code bad).nopCode = s.nopCode := rfl
@[simp] theorem State.enter_counterImpl (s : State) (k : ExceptionType) (code : Word) (bad : Option Word) : (s.enter k code bad).counterImpl = s.counterImpl := rfl
@[simp] theorem State.enter_fpInstance (s : State) (k : ExceptionType) (code : Word) (bad : Option Word) : (s.enter k code bad).fpInstance = s.fpInstance := rfl
@[simp] theorem State.enter_denied (s : State) (k : ExceptionType) (code : Word) (bad : Option Word) : (s.enter k code bad).denied = s.denied := rfl
@[simp] theorem State.enter_irqSources (s : State) (k : ExceptionType) (code : Word) (bad : Option Word) : (s.enter k code bad).irqSources = s.irqSources := rfl
@[simp] theorem State.enter_irqInstance (s : State) (k : ExceptionType) (code : Word) (bad : Option Word) : (s.enter k code bad).irqInstance = s.irqInstance := rfl
@[simp] theorem State.enter_irqAtEl1 (s : State) (k : ExceptionType) (code : Word) (bad : Option Word) : (s.enter k code bad).irqAtEl1 = s.irqAtEl1 := rfl
@[simp] theorem State.enter_irqInputs (s : State) (k : ExceptionType) (code : Word) (bad : Option Word) : (s.enter k code bad).irqInputs = s.irqInputs := rfl
@[simp] theorem State.enter_draws (s : State) (k : ExceptionType) (code : Word) (bad : Option Word) : (s.enter k code bad).draws = s.draws := rfl
@[simp] theorem State.enter_readR (s : State) (k : ExceptionType) (code : Word) (bad : Option Word) (i : Reg) : (s.enter k code bad).readR i = s.readR i := rfl
@[simp] theorem State.enter_readC (s : State) (k : ExceptionType) (code : Word) (bad : Option Word) (i : Reg) : (s.enter k code bad).readC i = s.readC i := rfl
@[simp] theorem State.enter_el (s : State) (k : ExceptionType) (code : Word) (bad : Option Word) : (s.enter k code bad).el = 1 := by
  simp [State.enter, State.el, append_low_bits]

/-! ### `State.raise` -/

@[simp] theorem State.raise_r (s : State) (x : SyncCause) : (s.raise x).r = s.r := rfl
@[simp] theorem State.raise_c (s : State) (x : SyncCause) : (s.raise x).c = s.c := rfl
@[simp] theorem State.raise_mem (s : State) (x : SyncCause) : (s.raise x).mem = s.mem := rfl
@[simp] theorem State.raise_addrBits (s : State) (x : SyncCause) : (s.raise x).addrBits = s.addrBits := rfl
@[simp] theorem State.raise_nopCode (s : State) (x : SyncCause) : (s.raise x).nopCode = s.nopCode := rfl
@[simp] theorem State.raise_counterImpl (s : State) (x : SyncCause) : (s.raise x).counterImpl = s.counterImpl := rfl
@[simp] theorem State.raise_fpInstance (s : State) (x : SyncCause) : (s.raise x).fpInstance = s.fpInstance := rfl
@[simp] theorem State.raise_denied (s : State) (x : SyncCause) : (s.raise x).denied = s.denied := rfl
@[simp] theorem State.raise_irqSources (s : State) (x : SyncCause) : (s.raise x).irqSources = s.irqSources := rfl
@[simp] theorem State.raise_irqInstance (s : State) (x : SyncCause) : (s.raise x).irqInstance = s.irqInstance := rfl
@[simp] theorem State.raise_irqAtEl1 (s : State) (x : SyncCause) : (s.raise x).irqAtEl1 = s.irqAtEl1 := rfl
@[simp] theorem State.raise_irqInputs (s : State) (x : SyncCause) : (s.raise x).irqInputs = s.irqInputs := rfl
@[simp] theorem State.raise_draws (s : State) (x : SyncCause) : (s.raise x).draws = s.draws := rfl
@[simp] theorem State.raise_el (s : State) (x : SyncCause) : (s.raise x).el = 1 := State.enter_el s _ _ _

/-! ### `State.returnFrom` -/

@[simp] theorem State.returnFrom_r (s : State) (n : BitVec 12) : (s.returnFrom n).r = s.r := rfl
@[simp] theorem State.returnFrom_e (s : State) (n : BitVec 12) : (s.returnFrom n).e = s.e := rfl
@[simp] theorem State.returnFrom_c (s : State) (n : BitVec 12) : (s.returnFrom n).c = s.c := rfl
@[simp] theorem State.returnFrom_mem (s : State) (n : BitVec 12) : (s.returnFrom n).mem = s.mem := rfl
@[simp] theorem State.returnFrom_addrBits (s : State) (n : BitVec 12) : (s.returnFrom n).addrBits = s.addrBits := rfl
@[simp] theorem State.returnFrom_nopCode (s : State) (n : BitVec 12) : (s.returnFrom n).nopCode = s.nopCode := rfl
@[simp] theorem State.returnFrom_counterImpl (s : State) (n : BitVec 12) : (s.returnFrom n).counterImpl = s.counterImpl := rfl
@[simp] theorem State.returnFrom_fpInstance (s : State) (n : BitVec 12) : (s.returnFrom n).fpInstance = s.fpInstance := rfl
@[simp] theorem State.returnFrom_denied (s : State) (n : BitVec 12) : (s.returnFrom n).denied = s.denied := rfl
@[simp] theorem State.returnFrom_irqSources (s : State) (n : BitVec 12) : (s.returnFrom n).irqSources = s.irqSources := rfl
@[simp] theorem State.returnFrom_irqInstance (s : State) (n : BitVec 12) : (s.returnFrom n).irqInstance = s.irqInstance := rfl
@[simp] theorem State.returnFrom_irqAtEl1 (s : State) (n : BitVec 12) : (s.returnFrom n).irqAtEl1 = s.irqAtEl1 := rfl
@[simp] theorem State.returnFrom_irqInputs (s : State) (n : BitVec 12) : (s.returnFrom n).irqInputs = s.irqInputs := rfl
@[simp] theorem State.returnFrom_draws (s : State) (n : BitVec 12) : (s.returnFrom n).draws = s.draws := rfl

/-! ### `State.stored` -/

@[simp] theorem State.stored_r (s : State) (a : Word) (n : Nat) (v : BitVec (8 * n)) : (s.stored a n v).r = s.r := rfl
@[simp] theorem State.stored_pc (s : State) (a : Word) (n : Nat) (v : BitVec (8 * n)) : (s.stored a n v).pc = s.pc := rfl
@[simp] theorem State.stored_e (s : State) (a : Word) (n : Nat) (v : BitVec (8 * n)) : (s.stored a n v).e = s.e := rfl
@[simp] theorem State.stored_c (s : State) (a : Word) (n : Nat) (v : BitVec (8 * n)) : (s.stored a n v).c = s.c := rfl
@[simp] theorem State.stored_addrBits (s : State) (a : Word) (n : Nat) (v : BitVec (8 * n)) : (s.stored a n v).addrBits = s.addrBits := rfl
@[simp] theorem State.stored_nopCode (s : State) (a : Word) (n : Nat) (v : BitVec (8 * n)) : (s.stored a n v).nopCode = s.nopCode := rfl
@[simp] theorem State.stored_counterImpl (s : State) (a : Word) (n : Nat) (v : BitVec (8 * n)) : (s.stored a n v).counterImpl = s.counterImpl := rfl
@[simp] theorem State.stored_fpInstance (s : State) (a : Word) (n : Nat) (v : BitVec (8 * n)) : (s.stored a n v).fpInstance = s.fpInstance := rfl
@[simp] theorem State.stored_denied (s : State) (a : Word) (n : Nat) (v : BitVec (8 * n)) : (s.stored a n v).denied = s.denied := rfl
@[simp] theorem State.stored_irqSources (s : State) (a : Word) (n : Nat) (v : BitVec (8 * n)) : (s.stored a n v).irqSources = s.irqSources := rfl
@[simp] theorem State.stored_irqInstance (s : State) (a : Word) (n : Nat) (v : BitVec (8 * n)) : (s.stored a n v).irqInstance = s.irqInstance := rfl
@[simp] theorem State.stored_irqAtEl1 (s : State) (a : Word) (n : Nat) (v : BitVec (8 * n)) : (s.stored a n v).irqAtEl1 = s.irqAtEl1 := rfl
@[simp] theorem State.stored_irqInputs (s : State) (a : Word) (n : Nat) (v : BitVec (8 * n)) : (s.stored a n v).irqInputs = s.irqInputs := rfl
@[simp] theorem State.stored_draws (s : State) (a : Word) (n : Nat) (v : BitVec (8 * n)) : (s.stored a n v).draws = s.draws := rfl
@[simp] theorem State.stored_el (s : State) (a : Word) (n : Nat) (v : BitVec (8 * n)) : (s.stored a n v).el = s.el := rfl
@[simp] theorem State.stored_pcAddr (s : State) (a : Word) (n : Nat) (v : BitVec (8 * n)) : (s.stored a n v).pcAddr = s.pcAddr := rfl
@[simp] theorem State.stored_pcByte (s : State) (a : Word) (n : Nat) (v : BitVec (8 * n)) : (s.stored a n v).pcByte = s.pcByte := rfl
@[simp] theorem State.stored_readR (s : State) (a : Word) (n : Nat) (v : BitVec (8 * n)) (i : Reg) : (s.stored a n v).readR i = s.readR i := rfl
@[simp] theorem State.stored_readE (s : State) (a : Word) (n : Nat) (v : BitVec (8 * n)) (i : Reg) : (s.stored a n v).readE i = s.readE i := rfl
@[simp] theorem State.stored_readC (s : State) (a : Word) (n : Nat) (v : BitVec (8 * n)) (i : Reg) : (s.stored a n v).readC i = s.readC i := rfl

/-! ### `State.tick` -/

@[simp] theorem State.tick_r (s : State) : (s.tick).r = s.r := rfl
@[simp] theorem State.tick_pc (s : State) : (s.tick).pc = s.pc := rfl
@[simp] theorem State.tick_e (s : State) : (s.tick).e = s.e := rfl
@[simp] theorem State.tick_mem (s : State) : (s.tick).mem = s.mem := rfl
@[simp] theorem State.tick_addrBits (s : State) : (s.tick).addrBits = s.addrBits := rfl
@[simp] theorem State.tick_nopCode (s : State) : (s.tick).nopCode = s.nopCode := rfl
@[simp] theorem State.tick_counterImpl (s : State) : (s.tick).counterImpl = s.counterImpl := rfl
@[simp] theorem State.tick_fpInstance (s : State) : (s.tick).fpInstance = s.fpInstance := rfl
@[simp] theorem State.tick_denied (s : State) : (s.tick).denied = s.denied := rfl
@[simp] theorem State.tick_irqSources (s : State) : (s.tick).irqSources = s.irqSources := rfl
@[simp] theorem State.tick_irqInstance (s : State) : (s.tick).irqInstance = s.irqInstance := rfl
@[simp] theorem State.tick_irqAtEl1 (s : State) : (s.tick).irqAtEl1 = s.irqAtEl1 := rfl
@[simp] theorem State.tick_irqInputs (s : State) : (s.tick).irqInputs = s.irqInputs := rfl
@[simp] theorem State.tick_el (s : State) : (s.tick).el = s.el := rfl
@[simp] theorem State.tick_pcByte (s : State) : (s.tick).pcByte = s.pcByte := rfl
@[simp] theorem State.tick_readR (s : State) (i : Reg) : (s.tick).readR i = s.readR i := rfl
@[simp] theorem State.tick_readE (s : State) (i : Reg) : (s.tick).readE i = s.readE i := rfl

/-! ### `State.sampleInts` -/

@[simp] theorem State.sampleInts_r (s : State) : (s.sampleInts).r = s.r := by
  unfold State.sampleInts; split <;> rfl
@[simp] theorem State.sampleInts_pc (s : State) : (s.sampleInts).pc = s.pc := by
  unfold State.sampleInts; split <;> rfl
@[simp] theorem State.sampleInts_c (s : State) : (s.sampleInts).c = s.c := by
  unfold State.sampleInts; split <;> rfl
@[simp] theorem State.sampleInts_mem (s : State) : (s.sampleInts).mem = s.mem := by
  unfold State.sampleInts; split <;> rfl
@[simp] theorem State.sampleInts_addrBits (s : State) : (s.sampleInts).addrBits = s.addrBits := by
  unfold State.sampleInts; split <;> rfl
@[simp] theorem State.sampleInts_nopCode (s : State) : (s.sampleInts).nopCode = s.nopCode := by
  unfold State.sampleInts; split <;> rfl
@[simp] theorem State.sampleInts_counterImpl (s : State) : (s.sampleInts).counterImpl = s.counterImpl := by
  unfold State.sampleInts; split <;> rfl
@[simp] theorem State.sampleInts_fpInstance (s : State) : (s.sampleInts).fpInstance = s.fpInstance := by
  unfold State.sampleInts; split <;> rfl
@[simp] theorem State.sampleInts_denied (s : State) : (s.sampleInts).denied = s.denied := by
  unfold State.sampleInts; split <;> rfl
@[simp] theorem State.sampleInts_irqSources (s : State) : (s.sampleInts).irqSources = s.irqSources := by
  unfold State.sampleInts; split <;> rfl
@[simp] theorem State.sampleInts_irqInstance (s : State) : (s.sampleInts).irqInstance = s.irqInstance := by
  unfold State.sampleInts; split <;> rfl
@[simp] theorem State.sampleInts_irqAtEl1 (s : State) : (s.sampleInts).irqAtEl1 = s.irqAtEl1 := by
  unfold State.sampleInts; split <;> rfl
@[simp] theorem State.sampleInts_draws (s : State) : (s.sampleInts).draws = s.draws := by
  unfold State.sampleInts; split <;> rfl
@[simp] theorem State.sampleInts_el (s : State) : (s.sampleInts).el = s.el := by
  unfold State.sampleInts; split <;> rfl
@[simp] theorem State.sampleInts_pcByte (s : State) : (s.sampleInts).pcByte = s.pcByte := by
  unfold State.sampleInts; split <;> rfl
@[simp] theorem State.sampleInts_readR (s : State) (i : Reg) : (s.sampleInts).readR i = s.readR i := by
  unfold State.sampleInts; split <;> rfl
@[simp] theorem State.sampleInts_readC (s : State) (i : Reg) : (s.sampleInts).readC i = s.readC i := by
  unfold State.sampleInts; split <;> rfl

/-! ### `State.begun` -/

@[simp] theorem State.begun_r (s : State) : (s.begun).r = s.r := by
  simp [State.begun]
@[simp] theorem State.begun_pc (s : State) : (s.begun).pc = s.pc := by
  simp [State.begun]
@[simp] theorem State.begun_mem (s : State) : (s.begun).mem = s.mem := by
  simp [State.begun]
@[simp] theorem State.begun_addrBits (s : State) : (s.begun).addrBits = s.addrBits := by
  simp [State.begun]
@[simp] theorem State.begun_nopCode (s : State) : (s.begun).nopCode = s.nopCode := by
  simp [State.begun]
@[simp] theorem State.begun_counterImpl (s : State) : (s.begun).counterImpl = s.counterImpl := by
  simp [State.begun]
@[simp] theorem State.begun_fpInstance (s : State) : (s.begun).fpInstance = s.fpInstance := by
  simp [State.begun]
@[simp] theorem State.begun_denied (s : State) : (s.begun).denied = s.denied := by
  simp [State.begun]
@[simp] theorem State.begun_irqSources (s : State) : (s.begun).irqSources = s.irqSources := by
  simp [State.begun]
@[simp] theorem State.begun_irqInstance (s : State) : (s.begun).irqInstance = s.irqInstance := by
  simp [State.begun]
@[simp] theorem State.begun_irqAtEl1 (s : State) : (s.begun).irqAtEl1 = s.irqAtEl1 := by
  simp [State.begun]
@[simp] theorem State.begun_el (s : State) : (s.begun).el = s.el := by
  simp [State.begun]
@[simp] theorem State.begun_pcByte (s : State) : (s.begun).pcByte = s.pcByte := by
  simp [State.begun]
@[simp] theorem State.begun_readR (s : State) (i : Reg) : (s.begun).readR i = s.readR i := by
  simp [State.begun]

end Sys2Proof.Machine
end

