-- ==== Sys2Proof/Laws/Memory.lean ====
section
/-! SUPPORT. The laws of memory: a byte reads back as written, every other byte reads as before, and every operation keeps the
canonical form. -/

namespace Sys2Proof.Machine

open Sys2Proof

theorem Memory.read_write_same (m : Memory) (a : Nat) (v : Byte) : (m.write a v).read a = some v := by
  induction m with
  | nil => simp [Memory.write, Memory.read]
  | cons p rest ih =>
    obtain ⟨b, w⟩ := p
    simp only [Memory.write]
    split
    · simp [Memory.read]
    · split
      · simp [Memory.read]
      · rename_i h
        simp [Memory.read, h, ih]

theorem Memory.read_write_other (m : Memory) {a c : Nat} (v : Byte) (h : c ≠ a) : (m.write a v).read c = m.read c := by
  induction m with
  | nil => simp [Memory.write, Memory.read, h]
  | cons p rest ih =>
    obtain ⟨b, w⟩ := p
    simp only [Memory.write]
    split
    · simp [Memory.read, h]
    · split
      · rename_i hb
        subst hb
        simp [Memory.read, h]
      · simp only [Memory.read, ih]

/-- In a canonical memory every address after the first is greater. -/
theorem Memory.wf_tail {bits : Config.AddrBits} {p : Host.Cell} {m : Memory} (h : Memory.wf bits (p :: m) = true) :
    m.wf bits = true := by
  cases m with
  | nil => rfl
  | cons q rest =>
    obtain ⟨a, v⟩ := p
    obtain ⟨b, w⟩ := q
    simp only [Memory.wf, Bool.and_eq_true] at h
    exact h.2

/-- The first address of a canonical memory is inside the address space. -/
theorem Memory.wf_head {bits : Config.AddrBits} {a : Nat} {v : Byte} {m : Memory} (h : Memory.wf bits ((a, v) :: m) = true) :
    a < 2 ^ bits.count := by
  induction m generalizing a v with
  | nil => simpa [Memory.wf] using h
  | cons q rest ih =>
    obtain ⟨b, w⟩ := q
    simp only [Memory.wf, Bool.and_eq_true, decide_eq_true_eq] at h
    exact h.1.trans (ih h.2)

/-- The second address of a canonical memory is greater than the first. -/
theorem Memory.wf_rises {bits : Config.AddrBits} {a : Nat} {v : Byte} {m : Memory}
    (h : Memory.wf bits ((a, v) :: m) = true) : ∀ q ∈ m.head?, a < q.1 := by
  cases m with
  | nil => simp
  | cons q rest =>
    obtain ⟨b, w⟩ := q
    simp only [Memory.wf, Bool.and_eq_true, decide_eq_true_eq] at h
    simpa using h.1

/-- A new entry in front keeps the form when its address is less than the first one's and inside the address space. -/
theorem Memory.wf_cons {bits : Config.AddrBits} {a : Nat} {v : Byte} {m : Memory} (hm : m.wf bits = true)
    (ha : a < 2 ^ bits.count) (h : ∀ q ∈ m.head?, a < q.1) : Memory.wf bits ((a, v) :: m) = true := by
  cases m with
  | nil => simpa [Memory.wf] using ha
  | cons q rest =>
    obtain ⟨b, w⟩ := q
    simp only [Memory.wf, Bool.and_eq_true, decide_eq_true_eq]
    exact ⟨h (b, w) rfl, hm⟩

/-- The first address after a write: the one written, or the first one before. -/
theorem Memory.head_write (m : Memory) (a : Nat) (v : Byte) :
    ∀ q ∈ (m.write a v).head?, q.1 = a ∨ ∃ p ∈ m.head?, q.1 = p.1 := by
  cases m with
  | nil => simp [Memory.write]
  | cons p rest =>
    obtain ⟨b, w⟩ := p
    simp only [Memory.write]
    split
    · simp
    · split <;> simp

/-- A write inside the address space keeps the canonical form. -/
theorem Memory.wf_write {bits : Config.AddrBits} {m : Memory} (hm : m.wf bits = true) {a : Nat} (ha : a < 2 ^ bits.count)
    (v : Byte) : (m.write a v).wf bits = true := by
  induction m with
  | nil => simpa [Memory.write, Memory.wf] using ha
  | cons p rest ih =>
    obtain ⟨b, w⟩ := p
    have hrest := Memory.wf_tail hm
    simp only [Memory.write]
    split
    · exact Memory.wf_cons hm ha (by simpa using ‹a < b›)
    · split
      · subst_vars
        cases rest with
        | nil => simpa [Memory.wf] using hm
        | cons q rest => simpa [Memory.wf] using hm
      · refine Memory.wf_cons (ih hrest) (Memory.wf_head hm) ?_
        intro q hq
        rcases Memory.head_write rest a v q hq with h | ⟨p, hp, h⟩
        · omega
        · have := Memory.wf_rises hm p hp
          omega

/-- Every address names a byte inside the implemented address space. -/
theorem byteNo_lt (bits : Config.AddrBits) (a : Word) : byteNo bits a < 2 ^ bits.count :=
  Nat.mod_lt _ (Nat.two_pow_pos bits.count)

/-- An address inside the implemented address space names its own byte; with `ADDR_BITS` 64 all of them do (R25). -/
theorem byteNo_of_lt {bits : Config.AddrBits} {a : Word} (h : a.toNat < 2 ^ bits.count) : byteNo bits a = a.toNat :=
  Nat.mod_eq_of_lt h

theorem byteNo_default (a : Word) : byteNo Config.addrBits a = a.toNat := byteNo_of_lt a.isLt

theorem Memory.wf_writeBytes {bits : Config.AddrBits} {m : Memory} (hm : m.wf bits = true) (a : Word) (bs : List Byte) :
    (m.writeBytes bits a bs).wf bits = true := by
  induction bs generalizing m a with
  | nil => exact hm
  | cons b bs ih => exact ih (Memory.wf_write hm (byteNo_lt bits a) b) (a + 1)

/-! ### Several bytes -/

/-- Addresses a short distance apart name different bytes. -/
theorem byteNo_add_ne {bits : Config.AddrBits} {a : Word} {j k : Nat} (hj : j < 2 ^ bits.count) (hk : k < 2 ^ bits.count)
    (h : j ≠ k) : byteNo bits (a + BitVec.ofNat 64 j) ≠ byteNo bits (a + BitVec.ofNat 64 k) := by
  have hd : 2 ^ bits.count ∣ 2 ^ 64 := Nat.pow_dvd_pow 2 bits.atMost
  have hb (i : Nat) : byteNo bits (a + BitVec.ofNat 64 i) = (a.toNat + i) % 2 ^ bits.count := by
    simp only [byteNo, BitVec.toNat_add, BitVec.toNat_ofNat]
    rw [Nat.mod_mod_of_dvd _ hd, Nat.add_mod, Nat.mod_mod_of_dvd _ hd, ← Nat.add_mod]
  rw [hb, hb]
  intro he
  have h1 : j ≡ k [MOD 2 ^ bits.count] := Nat.ModEq.add_left_cancel' a.toNat he
  exact h (Nat.ModEq.eq_of_lt_of_lt h1 hj hk)

theorem addr_add_succ (a : Word) (k : Nat) : a + 1 + BitVec.ofNat 64 k = a + BitVec.ofNat 64 (k + 1) := by
  rw [BitVec.add_assoc, Nat.add_comm, BitVec.ofNat_add]
  rfl

/-- A byte outside those written reads as before. -/
theorem Memory.read_writeBytes_other (m : Memory) (bits : Config.AddrBits) (a : Word) (bs : List Byte) (c : Nat)
    (h : ∀ k, k < bs.length → c ≠ byteNo bits (a + BitVec.ofNat 64 k)) : (m.writeBytes bits a bs).read c = m.read c := by
  induction bs generalizing m a with
  | nil => rfl
  | cons b bs ih =>
    rw [Memory.writeBytes, ih]
    · exact Memory.read_write_other m b (by simpa using h 0 (by simp))
    · intro k hk
      rw [addr_add_succ]
      exact h (k + 1) (by simpa using hk)

/-- The bytes written read back. -/
theorem Memory.read_writeBytes_same (m : Memory) (bits : Config.AddrBits) (a : Word) (bs : List Byte)
    (hlen : bs.length ≤ 2 ^ bits.count) (k : Nat) (hk : k < bs.length) :
    (m.writeBytes bits a bs).read (byteNo bits (a + BitVec.ofNat 64 k)) = bs[k]? := by
  induction bs generalizing m a k with
  | nil => simp at hk
  | cons b bs ih =>
    rw [Memory.writeBytes]
    cases k with
    | zero =>
      rw [Memory.read_writeBytes_other]
      · simpa using Memory.read_write_same m (byteNo bits a) b
      · intro j hj
        rw [addr_add_succ]
        simp only [List.length_cons] at hlen
        exact byteNo_add_ne (by omega) (by omega) (by omega)
    | succ k =>
      simp only [List.length_cons] at hlen hk
      rw [← addr_add_succ, ih _ _ (by omega) k (by omega)]
      simp

@[simp] theorem length_leBytes (n v : Nat) : (leBytes n v).length = n := by
  induction n generalizing v with
  | zero => rfl
  | succ n ih => simp [leBytes, ih]

/-- Byte `k` of a number. -/
theorem getElem?_leBytes (n v k : Nat) (hk : k < n) : (leBytes n v)[k]? = some (BitVec.ofNat 8 (v / 256 ^ k)) := by
  induction n generalizing v k with
  | zero => omega
  | succ n ih =>
    cases k with
    | zero => simp [leBytes]
    | succ k =>
      simp only [leBytes, List.getElem?_cons_succ]
      rw [ih _ _ (by omega), Nat.div_div_eq_div_mul, pow_succ, Nat.mul_comm]

/-- The number that the bytes of a number stand for (R62). -/
theorem leNat_leBytes (n v : Nat) : leNat (leBytes n v) = v % 256 ^ n := by
  induction n generalizing v with
  | zero => simp [leBytes, leNat, Nat.mod_one]
  | succ n ih =>
    have hb : (BitVec.ofNat 8 v).toNat = v % 256 := BitVec.toNat_ofNat v 8
    rw [leBytes, leNat, ih, hb, pow_succ, Nat.mul_comm (256 ^ n) 256, Nat.mod_mul]

/-- Byte `k` of a value, as its bits. -/
theorem byte_eq_extract {n : Nat} (w : BitVec (8 * n)) (k : Nat) :
    BitVec.ofNat 8 (w.toNat / 256 ^ k) = w.extractLsb' (8 * k) 8 := by
  apply BitVec.eq_of_toNat_eq
  rw [BitVec.toNat_ofNat, BitVec.extractLsb'_toNat, Nat.shiftRight_eq_div_pow, pow_mul]
  rfl

/-- What was stored stands in memory (R62). -/
theorem State.stored_holdsAt (s : State) (a : Word) (n : Nat) (hn : n ≤ 8) (w : BitVec (8 * n)) :
    HoldsAt (s.stored a n w) a n w := by
  intro k hk
  have hlen : n ≤ 2 ^ s.addrBits.count := hn.trans (Nat.pow_le_pow_right (i := 3) Nat.two_pos s.addrBits.atLeast)
  simp only [State.byteNo, State.stored]
  rw [Memory.read_writeBytes_same _ _ _ _ (by simpa using hlen) k (by simpa using hk), getElem?_leBytes _ _ _ hk, byte_eq_extract]

/-- Reading bytes that all have a value. -/
theorem Memory.readBytes_eq {m : Memory} {bits : Config.AddrBits} {a : Word} {n v : Nat}
    (h : ∀ k, k < n → m.read (byteNo bits (a + BitVec.ofNat 64 k)) = some (BitVec.ofNat 8 (v / 256 ^ k))) :
    m.readBytes bits a n = some (leBytes n v) := by
  induction n generalizing a v with
  | zero => rfl
  | succ n ih =>
    have h0 : m.read (byteNo bits a) = some (BitVec.ofNat 8 v) := by simpa using h 0 (by omega)
    have h1 : m.readBytes bits (a + 1) n = some (leBytes n (v / 256)) := by
      apply ih
      intro k hk
      rw [addr_add_succ, h (k + 1) (by omega), Nat.div_div_eq_div_mul, pow_succ, Nat.mul_comm]
    rw [Memory.readBytes, h0, h1]
    rfl

/-- Reading bytes one of which has no value. -/
theorem Memory.readBytes_none {m : Memory} {bits : Config.AddrBits} {a : Word} {n : Nat}
    (h : ∃ k, k < n ∧ m.read (byteNo bits (a + BitVec.ofNat 64 k)) = none) : m.readBytes bits a n = none := by
  obtain ⟨k, hk, h⟩ := h
  induction n generalizing a k with
  | zero => omega
  | succ n ih =>
    rw [Memory.readBytes]
    cases k with
    | zero =>
      have h0 : m.read (byteNo bits a) = none := by simpa using h
      simp [h0]
    | succ k =>
      rw [ih (a := a + 1) k (by omega) (by rw [addr_add_succ]; exact h)]
      cases m.read (byteNo bits a) <;> rfl

/-- A value that stands in memory is read (R62). -/
theorem State.bytesAt_of_holdsAt {s : State} {a : Word} {n : Nat} {w : BitVec (8 * n)} (h : HoldsAt s a n w) :
    s.bytesAt a n = .done w.toNat := by
  have h1 : s.mem.readBytes s.addrBits a n = some (leBytes n w.toNat) :=
    Memory.readBytes_eq fun k hk => (h k hk).trans (by rw [byte_eq_extract])
  have h2 : w.toNat % 256 ^ n = w.toNat := by
    apply Nat.mod_eq_of_lt
    have := w.isLt
    rwa [pow_mul] at this
  simp [State.bytesAt, h1, leNat_leBytes, h2]

theorem State.bytesAt_of_lacksByte {s : State} {a : Word} {n : Nat} (h : LacksByte s a n) :
    s.bytesAt a n = .stuck (.noValue a) := by
  simp [State.bytesAt, Memory.readBytes_none h]

/-! ### The access primitives -/

/-- `MemRead` of a value that is there, aligned and allowed (R69). -/
theorem State.memRead_done {s : State} {a : Word} {n : Nat} {w : BitVec (8 * n)} (ha : aligned a n = true)
    (hp : s.accessOk .load a n = true) (h : HoldsAt s a n w) : s.memRead a n = .done w := by
  simp [State.memRead, ha, hp, State.bytesAt_of_holdsAt h, Attempt.bind]

/-- Everything `MemRead` can do (R66, R69, R501). -/
theorem State.memRead_cases (s : State) (a : Word) (n : Nat) :
    (aligned a n = false ∧ s.memRead a n = .trap (.misaligned a)) ∨
    (aligned a n = true ∧ s.accessOk .load a n = false ∧ s.memRead a n = .trap (.illegalLoad a)) ∨
    (aligned a n = true ∧ s.accessOk .load a n = true ∧
      ((s.mem.readBytes s.addrBits a n = none ∧ s.memRead a n = .stuck (.noValue a)) ∨
        ∃ bs, s.mem.readBytes s.addrBits a n = some bs ∧ s.memRead a n = .done (BitVec.ofNat (8 * n) (leNat bs)))) := by
  unfold State.memRead State.bytesAt
  by_cases ha : aligned a n = true
  · by_cases hp : s.accessOk .load a n = true
    · right; right
      cases s.mem.readBytes s.addrBits a n <;> simp [ha, hp, Attempt.bind]
    · simp [ha, hp]
  · simp [ha]

/-- Everything `MemWrite` can do (R66, R69). -/
theorem State.memWrite_cases (s : State) (a : Word) (n : Nat) (v : BitVec (8 * n)) :
    (aligned a n = false ∧ s.memWrite a n v = .trap (.misaligned a)) ∨
    (aligned a n = true ∧ s.accessOk .store a n = false ∧ s.memWrite a n v = .trap (.illegalStore a)) ∨
    (aligned a n = true ∧ s.accessOk .store a n = true ∧ s.memWrite a n v = .done (s.stored a n v)) := by
  unfold State.memWrite
  by_cases ha : aligned a n = true
  · by_cases hp : s.accessOk .store a n = true <;> simp [ha, hp]
  · simp [ha]

/-- Everything `Fetch` can do (R68, R501). -/
theorem State.fetchWord_cases (s : State) (a : Word) :
    (s.accessOk .fetch a 4 = false ∧ s.fetchWord a = .trap (.illegalFetch a)) ∨
    (s.accessOk .fetch a 4 = true ∧
      ((s.mem.readBytes s.addrBits a 4 = none ∧ s.fetchWord a = .stuck (.noValue a)) ∨
        ∃ bs, s.mem.readBytes s.addrBits a 4 = some bs ∧ s.fetchWord a = .done (BitVec.ofNat 32 (leNat bs)))) := by
  unfold State.fetchWord State.bytesAt
  by_cases hp : s.accessOk .fetch a 4 = true
  · right
    cases s.mem.readBytes s.addrBits a 4 <;> simp [hp, Attempt.bind]
  · simp [hp]

/-- A word that stands in memory is fetched (R63, R68). -/
theorem State.fetchWord_done {s : State} {a : Word} {w : BitVec (8 * 4)} (hp : s.accessOk .fetch a 4 = true)
    (h : HoldsAt s a 4 w) : s.fetchWord a = .done w := by
  simp [State.fetchWord, hp, State.bytesAt_of_holdsAt h, Attempt.bind]

/-- A store keeps the canonical form. -/
theorem State.stored_wf {s : State} (h : s.mem.wf s.addrBits = true) (a : Word) (n : Nat) (v : BitVec (8 * n)) :
    (s.stored a n v).mem.wf s.addrBits = true := Memory.wf_writeBytes h a _

/-- What a store does to memory (R62). -/
theorem State.stored_wroteMemory (s : State) (a : Word) (n : Nat) (hn : n ≤ 8) (v : BitVec (8 * n)) :
    WroteMemory s (s.stored a n v) a n v := by
  refine ⟨s.stored_holdsAt a n hn v, fun c hc => ?_⟩
  exact Memory.read_writeBytes_other _ _ _ _ _ (by simpa [State.byteNo] using hc)

end Sys2Proof.Machine
end

