-- ==== Sys2Proof/Laws/Ops.lean ====
section
/-! SUPPORT. For each shared operation one lemma that says what it does, in the terms of Sys2Proof/Safety.lean. -/

namespace Sys2Proof.Machine

open Sys2Proof

/-! ### The program counter -/

/-- A byte address made of a word address. -/
theorem toNat_append_zero (a : BitVec 62) : (a ++ (0 : BitVec 2)).toNat = 4 * a.toNat := by
  rw [BitVec.toNat_append]
  simp [Nat.shiftLeft_eq, Nat.mul_comm]

theorem wordAddr_toNat (t : Word) : (wordAddr t).toNat = t.toNat / 4 := by
  have := t.isLt
  simp only [wordAddr, BitVec.extractLsb'_toNat, Nat.shiftRight_eq_div_pow]
  omega

/-- Clearing the two low bits. -/
theorem and_not_three (t : Word) : t &&& ~~~3 = wordAddr t ++ (0 : BitVec 2) := by
  have h1 : (t &&& ~~~3).toNat = t.toNat / 4 * 4 := by
    have h2 : t &&& ~~~(3 : Word) = (t >>> 2) <<< 2 := by
      apply BitVec.eq_of_getLsbD_eq
      intro k hk
      have h3 : (3 : Word).getLsbD k = decide (k < 2) := by
        have : ∀ j : Fin 64, (3 : Word).getLsbD j = decide (j.val < 2) := by decide
        exact this ⟨k, hk⟩
      simp only [BitVec.getLsbD_and, BitVec.getLsbD_not, h3, BitVec.getLsbD_shiftLeft, BitVec.getLsbD_ushiftRight, hk]
      by_cases h4 : k < 2
      · simp [h4]
      · have : 2 + (k - 2) = k := by omega
        simp [h4, this]
    rw [h2]
    have := t.isLt
    simp only [BitVec.toNat_shiftLeft, BitVec.toNat_ushiftRight, Nat.shiftLeft_eq, Nat.shiftRight_eq_div_pow]
    omega
  apply BitVec.eq_of_toNat_eq
  rw [h1]
  rw [BitVec.toNat_append, wordAddr_toNat]
  simp [Nat.shiftLeft_eq]

theorem State.pcByte_toNat (s : State) : s.pcByte.toNat = 4 * s.pcAddr.toNat := toNat_append_zero _

@[simp] theorem State.pcByte_setAddr (s : State) (a : BitVec 62) : (s.setAddr a).pcByte = a ++ (0 : BitVec 2) := by
  simp [State.pcByte]

/-- The pc register is its byte address with the level in the two low bits. -/
theorem State.pc_eq (s : State) : s.pc = s.pcAddr ++ s.el := by
  apply BitVec.eq_of_getLsbD_eq
  intro k hk
  rw [BitVec.getLsbD_append]
  by_cases h : k < 2
  · simp [State.el, h]
  · have h2 : 2 + (k - 2) = k := by omega
    simp [State.pcAddr, h, h2]
    omega

/-- `pc + 4` (R24). -/
theorem State.pcByte_advance (s : State) : s.advance.pcByte = s.pcByte + 4 := by
  apply BitVec.eq_of_toNat_eq
  rw [State.advance, State.pcByte_setAddr, toNat_append_zero, BitVec.toNat_add, BitVec.toNat_add, State.pcByte_toNat]
  have := s.pcAddr.isLt
  simp
  omega

/-- A jump drops the two low bits of its target (R7). -/
theorem State.pcByte_jump (s : State) (t : Word) : (s.jump t).pcByte = t &&& ~~~3 := by
  rw [State.jump, State.pcByte_setAddr, and_not_three]

/-- A jump to a multiple of four goes there. -/
theorem State.pcByte_jump_of_dvd (s : State) {t : Word} (h : t.toNat % 4 = 0) : (s.jump t).pcByte = t := by
  apply BitVec.eq_of_toNat_eq
  rw [State.jump, State.pcByte_setAddr, toNat_append_zero, wordAddr_toNat]
  omega

/-- A signed count of instructions in bytes: two zero bits appended (R101, R102). -/
theorem signExtend_append_zero {n : Nat} (hn : n + 2 ≤ 64) (off : BitVec n) :
    (off ++ (0 : BitVec 2)).signExtend 64 = off.signExtend 64 * 4 := by
  apply BitVec.eq_of_toInt_eq
  have h1 : (off ++ (0 : BitVec 2)).toInt = 4 * off.toInt := by
    rw [BitVec.toInt_append]
    by_cases h0 : n = 0
    · subst h0
      simp [BitVec.eq_nil off]
    · simp [h0, Int.mul_comm]
  rw [BitVec.toInt_signExtend_of_le hn, h1, BitVec.toInt_mul, BitVec.toInt_signExtend_of_le (by omega)]
  have hb := BitVec.toInt_lt (x := off)
  have hc := BitVec.le_toInt (x := off)
  have h4 : (4 : Word).toInt = 4 := by decide
  have hp : (2 : Int) ^ (n - 1) ≤ 2 ^ 61 := by
    apply pow_le_pow_right₀ (by norm_num) (by omega)
  rw [h4, Int.bmod_eq_of_le] <;> push_cast <;> omega

/-- The word address a register jump goes to, in bytes (R103). -/
theorem registerTarget_bytes {n : Nat} (b : Word) (off : BitVec n) :
    (wordAddr b + off.signExtend 62) ++ (0 : BitVec 2) = (b &&& ~~~3) + off.signExtend 64 * 4 := by
  apply BitVec.eq_of_toNat_eq
  rw [and_not_three, toNat_append_zero, BitVec.toNat_add, BitVec.toNat_add, toNat_append_zero, BitVec.toNat_mul,
    BitVec.signExtend, BitVec.signExtend, BitVec.toNat_ofInt, BitVec.toNat_ofInt]
  have h4 : (4 : Word).toNat = 4 := by decide
  rw [h4]
  have := (wordAddr b).isLt
  push_cast
  omega

/-- A branch target is a multiple of four (R67). -/
theorem State.target_dvd (s : State) (x : Word) : (s.pcByte + x * 4).toNat % 4 = 0 := by
  rw [BitVec.toNat_add, BitVec.toNat_mul, State.pcByte_toNat]
  have h4 : (4 : Word).toNat = 4 := by decide
  rw [h4]
  omega

theorem State.jumpTarget_eq (s : State) (off : BitVec 26) : s.jumpTarget off = s.pcByte + off.signExtend 64 * 4 := by
  rw [State.jumpTarget, signExtend_append_zero (by omega)]

theorem State.branchTarget_eq (s : State) (off : BitVec 16) : s.branchTarget off = s.pcByte + off.signExtend 64 * 4 := by
  rw [State.branchTarget, signExtend_append_zero (by omega)]

/-! ### Register writes -/

theorem readR_writeR (s : State) (d i : Reg) (v : Word) : (s.writeR d v).readR i = if i = d then v else s.readR i := by
  unfold State.readR State.writeR
  simp only [Fin.getElem_fin, Vector.getElem_set, Fin.ext_iff, eq_comm]

theorem readE_writeE (s : State) (d i : Reg) (v : Word) :
    (s.writeE d v).readE i =
      if i = d then (if undefinedE d then 0 else writtenE d (s.readE d) v) else s.readE i := by
  unfold State.writeE
  by_cases hd : undefinedE d = true
  · by_cases hi : i = d
    · subst hi
      simp [State.readE, hd]
    · simp [hd, hi]
  · by_cases hi : i = d
    · subst hi
      simp [State.readE, hd]
    · have : d.val ≠ i.val := fun h => hi (Fin.ext h.symm)
      simp [State.readE, hd, hi, this]

/-- A general register was written and nothing else (R20). -/
theorem State.wroteR_writeR (s : State) (d : Reg) (v : Word) : WroteR s (s.writeR d v) d v :=
  ⟨fun i => readR_writeR s d i v, fun i => by simp⟩

/-- An exception register was written and nothing else (R30, R36). -/
theorem State.wroteE_writeE (s : State) (d : Reg) (v : Word) : WroteE s (s.writeE d v) d v := by
  refine ⟨fun i => by simp, fun i => ?_⟩
  rw [readE_writeE]
  have h : d = intsNo ↔ d.val = 19 := by rw [Fin.ext_iff]; rfl
  simp only [undefinedE, decide_eq_true_eq, writtenE, h]

/-- `x[d] <- v` (R27). -/
theorem State.wroteX_writeX (s : State) (d : Reg) (v : Word) : WroteX s (s.writeX d v) d v := by
  unfold WroteX State.writeX
  split
  · exact State.wroteR_writeR s d v
  · exact State.wroteE_writeE s d v

/-- What was written stays written when only the pc moves. -/
theorem WroteX.setAddr {s t : State} {d : Reg} {v : Word} (h : WroteX s t d v) (a : BitVec 62) : WroteX s (t.setAddr a) d v := by
  unfold WroteX WroteR WroteE SameE SameR at *
  simpa using h

theorem State.sameRest_writeX (s : State) (d : Reg) (v : Word) : SameRest s (s.writeX d v) := by simp [SameRest, SameParameters]

/-- The end of an instruction that writes a register and then goes to a word address. -/
theorem State.wroteAndWent (s : State) (d : Reg) (v : Word) (a : BitVec 62) :
    WroteAndWent s ((s.writeX d v).setAddr a) d v (a ++ (0 : BitVec 2)) :=
  ⟨(State.wroteX_writeX s d v).setAddr a, fun _ => by simp, by simp [SameRest, SameParameters], by simp [PcAt]⟩

/-- The end of an instruction that writes one register. -/
theorem State.resultAt_result (s : State) (d : Reg) (v : Word) : ResultAt s d v (s.result d v) := by
  have h := s.wroteAndWent d v (s.pcAddr + 1)
  have h2 : (s.pcAddr + 1) ++ (0 : BitVec 2) = s.pcByte + 4 := by
    rw [← State.pcByte_advance, State.advance, State.pcByte_setAddr]
  rw [h2] at h
  simpa [State.result, State.advance, ResultAt] using h

/-- The end of an instruction that only moves the pc. -/
theorem State.onlyWent_setAddr (s : State) (a : BitVec 62) : OnlyWent s (s.setAddr a) (a ++ (0 : BitVec 2)) :=
  ⟨fun _ => by simp, fun _ => by simp, fun _ => by simp, by simp [SameRest, SameParameters], by simp [PcAt]⟩

theorem State.onlyWent_advance (s : State) : OnlyWent s s.advance (s.pcByte + 4) := by
  have h := s.onlyWent_setAddr (s.pcAddr + 1)
  rwa [← State.pcByte_setAddr s, ← State.advance, State.pcByte_advance] at h

/-- The end of a branch (R102). -/
theorem State.onlyWent_branch (s : State) (taken : Bool) (off : BitVec 16) :
    OnlyWent s (s.branch taken off) (if taken then s.pcByte + off.signExtend 64 * 4 else s.pcByte + 4) := by
  cases taken
  · exact s.onlyWent_advance
  · have h := s.onlyWent_setAddr (wordAddr (s.branchTarget off))
    rw [← State.pcByte_setAddr s, ← State.jump, State.branchTarget_eq, State.pcByte_jump_of_dvd _ (s.target_dvd _)] at h
    simpa [State.branch, State.branchTarget_eq] using h

/-! ### Exceptions -/

/-- Taking an exception does what R456 says and nothing else. -/
theorem State.tookException_enter (s : State) (k : ExceptionType) (code : Word) (bad : Option Word) :
    TookException s k.offset code bad (s.enter k code bad) := by
  refine ⟨fun i => by simp, fun a => by simp, by simp [SameRest, SameParameters], fun i => ?_, by simp, ?_⟩
  · by_cases hu : undefinedE i = true
    · have h16 : i ≠ 16 := by rintro rfl; simp [undefinedE] at hu
      have h17 : i ≠ 17 := by rintro rfl; simp [undefinedE] at hu
      have h18 : i ≠ 18 := by rintro rfl; simp [undefinedE] at hu
      simp [State.readE, hu, h16, h17, h18]
    · have e16 : (16 = i.val) ↔ i = 16 := by rw [Fin.ext_iff]; exact eq_comm
      have e17 : (17 = i.val) ↔ i = 17 := by rw [Fin.ext_iff]; exact eq_comm
      have e18 : (18 = i.val) ↔ i = 18 := by rw [Fin.ext_iff]; exact eq_comm
      cases bad <;>
        simp only [State.readE, hu, State.enter, savedE, epcNo, ecodeNo, eaddrNo, Fin.getElem_fin, Vector.getElem_set,
          Bool.false_eq_true, if_false, Option.getD_some, Option.getD_none]
      all_goals
        have f16 : ((16 : Reg).val) = 16 := rfl
        have f17 : ((17 : Reg).val) = 17 := rfl
        have f18 : ((18 : Reg).val) = 18 := rfl
        have u17 : undefinedE 17 = false := by decide
        simp only [f16, f17, f18, e16, e17, e18, u17, Bool.false_eq_true, if_false]
        split_ifs <;> simp_all
  · have h0 : s.readE 0 = s.e[ebaseNo] := by simp [State.readE, undefinedE, ebaseNo]
    rw [h0, and_not_three]
    simp [State.enter, State.pcByte, State.pcAddr, append_high_bits]

/-- A synchronous exception was raised (R455). -/
theorem State.raised_raise (s : State) (c : SyncCause) : Raised s c.code c.badAddr (s.raise c) :=
  s.tookException_enter .synchronous c.code c.badAddr

/-- How an attempt ends an instruction. -/
theorem finish_next {s t : State} {x : Attempt State} (h : finish s x = .next t) :
    x = .done t ∨ ∃ c, x = .trap c ∧ t = s.raise c := by
  cases x <;> simp_all [finish, eq_comm]

/-! ### What begins a step -/

theorem State.counted_le (old d : Word) : old.toNat ≤ (counted old d).toNat := by
  unfold counted
  split <;> omega

@[simp] theorem State.tick_undefinedC (s : State) (i : Reg) : s.tick.undefinedC i = s.undefinedC i := rfl

/-- What the update makes of the place of counter `i`. -/
@[simp] theorem State.tick_getElem (s : State) (i : Reg) : s.tick.c[i] = s.countOf i s.c[i] := by simp [State.tick]

/-- An undefined counter is not updated (R42). -/
theorem State.counts_undefined (s : State) (i : Reg) (h : s.undefinedC i = true) : s.counts i = false := by
  have hd : definedC i = false := by
    simp only [State.undefinedC, Bool.not_eq_true', Bool.or_eq_false_iff] at h
    exact h.1
  simp only [definedC, decide_eq_false_iff_not, not_or] at hd
  simp [State.counts, hd, h]

/-- The update of the counters never lowers one (R43). -/
theorem State.tick_le (s : State) (i : Reg) : (s.readC i).toNat ≤ (s.tick.readC i).toNat := by
  unfold State.readC
  rw [State.tick_undefinedC, State.tick_getElem, State.countOf]
  split
  · exact le_rfl
  · split
    · exact State.counted_le _ _
    · exact le_rfl

/-- A counter that is not updated reads as before (R43). -/
theorem State.tick_same (s : State) (i : Reg) (h : s.counts i = false) : s.tick.readC i = s.readC i := by
  unfold State.readC
  rw [State.tick_undefinedC, State.tick_getElem, State.countOf, h]
  simp

/-! ### Choosing a source (R463, R466) -/

@[simp] theorem State.begun_irq (s : State) : s.begun.irq = s.irq := by simp [State.irq]

/-- What the lowest bit is (R463). -/
theorem lowestBit_eq_some (w : Word) (k : Nat) :
    lowestBit w = some k ↔ w.getLsbD k = true ∧ ∀ j, j < k → w.getLsbD j = false := by
  unfold lowestBit
  rw [List.find?_range_eq_some]
  constructor
  · rintro ⟨hk, -, hj⟩
    exact ⟨hk, fun j h => by simpa using hj j h⟩
  · rintro ⟨hk, hj⟩
    have h64 : k < 64 := BitVec.lt_of_getLsbD hk
    exact ⟨hk, by simpa using h64, fun j h => by simp [hj j h]⟩

/-- A word that is not 0 has a lowest bit. -/
theorem lowestBit_isSome (w : Word) (hw : w ≠ 0) : ∃ k, lowestBit w = some k := by
  rw [← Option.isSome_iff_exists, lowestBit, List.find?_isSome]
  by_contra h
  refine hw (BitVec.eq_of_getLsbD_eq fun i hi => ?_)
  simpa using fun hb => h ⟨i, List.mem_range.mpr hi, hb⟩

/-- The default rules take the lowest source (R463). -/
theorem standardIrq_choose (w : Word) (k : Nat) (h : lowestBit w = some k) : standardIrq.choose w = k := by
  simp [standardIrq, h]

/-- Whatever the rules, the source that is taken is one of those that are pending and enabled, and it is the one that
`irq.choose` names if that is one of them (R463, R466). -/
theorem State.takenOf_eq_some {s : State} {w : Word} {k : Nat} (h : s.takenOf w = some k) :
    w.getLsbD k = true ∧ (w.getLsbD (s.irq.choose w) = true → k = s.irq.choose w) := by
  unfold State.takenOf at h
  split at h
  · rename_i hc
    cases h
    exact ⟨hc, fun _ => rfl⟩
  · rename_i hc
    exact ⟨((lowestBit_eq_some w k).mp h).1, fun hw => absurd hw hc⟩

/-- Some source is taken exactly when one is pending and enabled. -/
theorem State.takenOf_eq_none (s : State) (w : Word) : s.takenOf w = none ↔ w = 0 := by
  constructor
  · intro h
    by_contra hw
    obtain ⟨k, hk⟩ := lowestBit_isSome w hw
    unfold State.takenOf at h
    split at h
    · cases h
    · rw [hk] at h
      cases h
  · rintro rfl
    simp [State.takenOf, lowestBit]

/-- Whose interrupt a step may take, all that it can be (R466). -/
theorem State.chosenSource_eq_some {s : State} {k : Nat} (h : s.chosenSource = some k) :
    (s.el = 0 ∨ s.irqAtEl1 = true) ∧ s.takenOf s.activeSources = some k := by
  unfold State.chosenSource at h
  split at h
  · cases h
  · split at h
    · rename_i hl
      exact ⟨by simpa using hl, h⟩
    · cases h

end Sys2Proof.Machine
end

