-- ==== Sys2Proof/Laws/PerInstr.lean ====
section
/-! SUPPORT. A statement about every instruction as syntax, with one lemma per constructor. -/

/-- The opcode of every instruction's word is one that R108 defines or the NOP's: whatever `OP_NOP` is, no instruction is encoded with
an opcode of R120. -/
def Sys2Proof.Laws.DefinedOpcode.Statement (i : Sys2Proof.Instr) : Prop :=
  ∀ nop : Sys2Proof.Config.NopCode, Sys2Proof.fieldOp (Sys2Proof.encode nop i) ∉ Sys2Proof.Config.freeOpcodes.erase nop.code

namespace Sys2Proof.Laws.DefinedOpcode

open Sys2Proof

/-- An opcode that is not free is not among the free ones but one. -/
theorem defined_not_erased (op : BitVec 6) (nop : Config.NopCode) (h : op ∉ Config.freeOpcodes) :
    op ∉ Config.freeOpcodes.erase nop.code := fun he => h (List.mem_of_mem_erase he)

/-- The free opcodes but the NOP's do not hold the NOP's. -/
theorem nop_not_erased (nop : Config.NopCode) : nop.code ∉ Config.freeOpcodes.erase nop.code := by
  have h : Config.freeOpcodes.Nodup := by decide
  exact h.not_mem_erase

theorem nop (imm : BitVec 26) : Statement (.nop imm) := by
  intro n; unfold encode; rw [fieldOp_formatJ]; exact nop_not_erased n
theorem j (off : BitVec 26) : Statement (.j off) := by
  intro n; unfold encode; rw [fieldOp_formatJ]; exact defined_not_erased _ n (by decide)
theorem jal (off : BitVec 26) : Statement (.jal off) := by
  intro n; unfold encode; rw [fieldOp_formatJ]; exact defined_not_erased _ n (by decide)
theorem beq (a b : Reg) (off : BitVec 16) : Statement (.beq a b off) := by
  intro n; unfold encode; rw [fieldOp_formatB]; exact defined_not_erased _ n (by decide)
theorem bne (a b : Reg) (off : BitVec 16) : Statement (.bne a b off) := by
  intro n; unfold encode; rw [fieldOp_formatB]; exact defined_not_erased _ n (by decide)
theorem blt (a b : Reg) (off : BitVec 16) : Statement (.blt a b off) := by
  intro n; unfold encode; rw [fieldOp_formatB]; exact defined_not_erased _ n (by decide)
theorem bge (a b : Reg) (off : BitVec 16) : Statement (.bge a b off) := by
  intro n; unfold encode; rw [fieldOp_formatB]; exact defined_not_erased _ n (by decide)
theorem bltu (a b : Reg) (off : BitVec 16) : Statement (.bltu a b off) := by
  intro n; unfold encode; rw [fieldOp_formatB]; exact defined_not_erased _ n (by decide)
theorem bgeu (a b : Reg) (off : BitVec 16) : Statement (.bgeu a b off) := by
  intro n; unfold encode; rw [fieldOp_formatB]; exact defined_not_erased _ n (by decide)
theorem beqi (a : Reg) (imm : BitVec 5) (off : BitVec 16) : Statement (.beqi a imm off) := by
  intro n; unfold encode; rw [fieldOp_formatBI]; exact defined_not_erased _ n (by decide)
theorem bnei (a : Reg) (imm : BitVec 5) (off : BitVec 16) : Statement (.bnei a imm off) := by
  intro n; unfold encode; rw [fieldOp_formatBI]; exact defined_not_erased _ n (by decide)
theorem blti (a : Reg) (imm : BitVec 5) (off : BitVec 16) : Statement (.blti a imm off) := by
  intro n; unfold encode; rw [fieldOp_formatBI]; exact defined_not_erased _ n (by decide)
theorem bgei (a : Reg) (imm : BitVec 5) (off : BitVec 16) : Statement (.bgei a imm off) := by
  intro n; unfold encode; rw [fieldOp_formatBI]; exact defined_not_erased _ n (by decide)
theorem bltui (a : Reg) (imm : BitVec 5) (off : BitVec 16) : Statement (.bltui a imm off) := by
  intro n; unfold encode; rw [fieldOp_formatBI]; exact defined_not_erased _ n (by decide)
theorem bgeui (a : Reg) (imm : BitVec 5) (off : BitVec 16) : Statement (.bgeui a imm off) := by
  intro n; unfold encode; rw [fieldOp_formatBI]; exact defined_not_erased _ n (by decide)
theorem loop (a b : Reg) (off : BitVec 16) : Statement (.loop a b off) := by
  intro n; unfold encode; rw [fieldOp_formatB]; exact defined_not_erased _ n (by decide)
theorem loopd (a b : Reg) (off : BitVec 16) : Statement (.loopd a b off) := by
  intro n; unfold encode; rw [fieldOp_formatB]; exact defined_not_erased _ n (by decide)
theorem jr (a : Reg) (off : BitVec 16) : Statement (.jr a off) := by
  intro n; unfold encode; rw [fieldOp_formatB]; exact defined_not_erased _ n (by decide)
theorem jalr (a b : Reg) (off : BitVec 16) : Statement (.jalr a b off) := by
  intro n; unfold encode; rw [fieldOp_formatB]; exact defined_not_erased _ n (by decide)
theorem lbu (a b : Reg) (imm : BitVec 12) : Statement (.lbu a b imm) := by
  intro n; unfold encode; rw [fieldOp_formatI]; exact defined_not_erased _ n (by decide)
theorem lhu (a b : Reg) (imm : BitVec 12) : Statement (.lhu a b imm) := by
  intro n; unfold encode; rw [fieldOp_formatI]; exact defined_not_erased _ n (by decide)
theorem lwu (a b : Reg) (imm : BitVec 12) : Statement (.lwu a b imm) := by
  intro n; unfold encode; rw [fieldOp_formatI]; exact defined_not_erased _ n (by decide)
theorem ldu (a b : Reg) (imm : BitVec 12) : Statement (.ldu a b imm) := by
  intro n; unfold encode; rw [fieldOp_formatI]; exact defined_not_erased _ n (by decide)
theorem lb (a b : Reg) (imm : BitVec 12) : Statement (.lb a b imm) := by
  intro n; unfold encode; rw [fieldOp_formatI]; exact defined_not_erased _ n (by decide)
theorem lh (a b : Reg) (imm : BitVec 12) : Statement (.lh a b imm) := by
  intro n; unfold encode; rw [fieldOp_formatI]; exact defined_not_erased _ n (by decide)
theorem lw (a b : Reg) (imm : BitVec 12) : Statement (.lw a b imm) := by
  intro n; unfold encode; rw [fieldOp_formatI]; exact defined_not_erased _ n (by decide)
theorem ld (a b : Reg) (imm : BitVec 12) : Statement (.ld a b imm) := by
  intro n; unfold encode; rw [fieldOp_formatI]; exact defined_not_erased _ n (by decide)
theorem sb (a b : Reg) (imm : BitVec 12) : Statement (.sb a b imm) := by
  intro n; unfold encode; rw [fieldOp_formatI]; exact defined_not_erased _ n (by decide)
theorem sh (a b : Reg) (imm : BitVec 12) : Statement (.sh a b imm) := by
  intro n; unfold encode; rw [fieldOp_formatI]; exact defined_not_erased _ n (by decide)
theorem sw (a b : Reg) (imm : BitVec 12) : Statement (.sw a b imm) := by
  intro n; unfold encode; rw [fieldOp_formatI]; exact defined_not_erased _ n (by decide)
theorem sd (a b : Reg) (imm : BitVec 12) : Statement (.sd a b imm) := by
  intro n; unfold encode; rw [fieldOp_formatI]; exact defined_not_erased _ n (by decide)
theorem lbuX (a b : Reg) (sc : Nat) (d : Reg) : Statement (.lbuX a b sc d) := by
  intro n; unfold encode; rw [fieldOp_formatR]; exact defined_not_erased _ n (by decide)
theorem lhuX (a b : Reg) (sc : Nat) (d : Reg) : Statement (.lhuX a b sc d) := by
  intro n; unfold encode; rw [fieldOp_formatR]; exact defined_not_erased _ n (by decide)
theorem lwuX (a b : Reg) (sc : Nat) (d : Reg) : Statement (.lwuX a b sc d) := by
  intro n; unfold encode; rw [fieldOp_formatR]; exact defined_not_erased _ n (by decide)
theorem lduX (a b : Reg) (sc : Nat) (d : Reg) : Statement (.lduX a b sc d) := by
  intro n; unfold encode; rw [fieldOp_formatR]; exact defined_not_erased _ n (by decide)
theorem lbX (a b : Reg) (sc : Nat) (d : Reg) : Statement (.lbX a b sc d) := by
  intro n; unfold encode; rw [fieldOp_formatR]; exact defined_not_erased _ n (by decide)
theorem lhX (a b : Reg) (sc : Nat) (d : Reg) : Statement (.lhX a b sc d) := by
  intro n; unfold encode; rw [fieldOp_formatR]; exact defined_not_erased _ n (by decide)
theorem lwX (a b : Reg) (sc : Nat) (d : Reg) : Statement (.lwX a b sc d) := by
  intro n; unfold encode; rw [fieldOp_formatR]; exact defined_not_erased _ n (by decide)
theorem ldX (a b : Reg) (sc : Nat) (d : Reg) : Statement (.ldX a b sc d) := by
  intro n; unfold encode; rw [fieldOp_formatR]; exact defined_not_erased _ n (by decide)
theorem sbX (a b : Reg) (sc : Nat) (c : Reg) : Statement (.sbX a b sc c) := by
  intro n; unfold encode; rw [fieldOp_formatR]; exact defined_not_erased _ n (by decide)
theorem shX (a b : Reg) (sc : Nat) (c : Reg) : Statement (.shX a b sc c) := by
  intro n; unfold encode; rw [fieldOp_formatR]; exact defined_not_erased _ n (by decide)
theorem swX (a b : Reg) (sc : Nat) (c : Reg) : Statement (.swX a b sc c) := by
  intro n; unfold encode; rw [fieldOp_formatR]; exact defined_not_erased _ n (by decide)
theorem sdX (a b : Reg) (sc : Nat) (c : Reg) : Statement (.sdX a b sc c) := by
  intro n; unfold encode; rw [fieldOp_formatR]; exact defined_not_erased _ n (by decide)
theorem addI (a b : Reg) (imm : BitVec 12) : Statement (.addI a b imm) := by
  intro n; unfold encode; rw [fieldOp_formatI]; exact defined_not_erased _ n (by decide)
theorem naddI (a b : Reg) (imm : BitVec 12) : Statement (.naddI a b imm) := by
  intro n; unfold encode; rw [fieldOp_formatI]; exact defined_not_erased _ n (by decide)
theorem andI (a b : Reg) (imm : BitVec 12) : Statement (.andI a b imm) := by
  intro n; unfold encode; rw [fieldOp_formatI]; exact defined_not_erased _ n (by decide)
theorem candI (a b : Reg) (imm : BitVec 12) : Statement (.candI a b imm) := by
  intro n; unfold encode; rw [fieldOp_formatI]; exact defined_not_erased _ n (by decide)
theorem orI (a b : Reg) (imm : BitVec 12) : Statement (.orI a b imm) := by
  intro n; unfold encode; rw [fieldOp_formatI]; exact defined_not_erased _ n (by decide)
theorem corI (a b : Reg) (imm : BitVec 12) : Statement (.corI a b imm) := by
  intro n; unfold encode; rw [fieldOp_formatI]; exact defined_not_erased _ n (by decide)
theorem xorI (a b : Reg) (imm : BitVec 12) : Statement (.xorI a b imm) := by
  intro n; unfold encode; rw [fieldOp_formatI]; exact defined_not_erased _ n (by decide)
theorem setI (a b : Reg) (imm : BitVec 12) : Statement (.setI a b imm) := by
  intro n; unfold encode; rw [fieldOp_formatI]; exact defined_not_erased _ n (by decide)
theorem eqI (a b : Reg) (imm : BitVec 12) : Statement (.eqI a b imm) := by
  intro n; unfold encode; rw [fieldOp_formatI]; exact defined_not_erased _ n (by decide)
theorem neI (a b : Reg) (imm : BitVec 12) : Statement (.neI a b imm) := by
  intro n; unfold encode; rw [fieldOp_formatI]; exact defined_not_erased _ n (by decide)
theorem ltI (a b : Reg) (imm : BitVec 12) : Statement (.ltI a b imm) := by
  intro n; unfold encode; rw [fieldOp_formatI]; exact defined_not_erased _ n (by decide)
theorem geI (a b : Reg) (imm : BitVec 12) : Statement (.geI a b imm) := by
  intro n; unfold encode; rw [fieldOp_formatI]; exact defined_not_erased _ n (by decide)
theorem ltuI (a b : Reg) (imm : BitVec 12) : Statement (.ltuI a b imm) := by
  intro n; unfold encode; rw [fieldOp_formatI]; exact defined_not_erased _ n (by decide)
theorem geuI (a b : Reg) (imm : BitVec 12) : Statement (.geuI a b imm) := by
  intro n; unfold encode; rw [fieldOp_formatI]; exact defined_not_erased _ n (by decide)
theorem minI (a b : Reg) (imm : BitVec 12) : Statement (.minI a b imm) := by
  intro n; unfold encode; rw [fieldOp_formatI]; exact defined_not_erased _ n (by decide)
theorem maxI (a b : Reg) (imm : BitVec 12) : Statement (.maxI a b imm) := by
  intro n; unfold encode; rw [fieldOp_formatI]; exact defined_not_erased _ n (by decide)
theorem addI1 (a b : Reg) (imm : BitVec 12) : Statement (.addI1 a b imm) := by
  intro n; unfold encode; rw [fieldOp_formatI]; exact defined_not_erased _ n (by decide)
theorem naddI1 (a b : Reg) (imm : BitVec 12) : Statement (.naddI1 a b imm) := by
  intro n; unfold encode; rw [fieldOp_formatI]; exact defined_not_erased _ n (by decide)
theorem andI1 (a b : Reg) (imm : BitVec 12) : Statement (.andI1 a b imm) := by
  intro n; unfold encode; rw [fieldOp_formatI]; exact defined_not_erased _ n (by decide)
theorem candI1 (a b : Reg) (imm : BitVec 12) : Statement (.candI1 a b imm) := by
  intro n; unfold encode; rw [fieldOp_formatI]; exact defined_not_erased _ n (by decide)
theorem orI1 (a b : Reg) (imm : BitVec 12) : Statement (.orI1 a b imm) := by
  intro n; unfold encode; rw [fieldOp_formatI]; exact defined_not_erased _ n (by decide)
theorem corI1 (a b : Reg) (imm : BitVec 12) : Statement (.corI1 a b imm) := by
  intro n; unfold encode; rw [fieldOp_formatI]; exact defined_not_erased _ n (by decide)
theorem xorI1 (a b : Reg) (imm : BitVec 12) : Statement (.xorI1 a b imm) := by
  intro n; unfold encode; rw [fieldOp_formatI]; exact defined_not_erased _ n (by decide)
theorem setI1 (a b : Reg) (imm : BitVec 12) : Statement (.setI1 a b imm) := by
  intro n; unfold encode; rw [fieldOp_formatI]; exact defined_not_erased _ n (by decide)
theorem eqI1 (a b : Reg) (imm : BitVec 12) : Statement (.eqI1 a b imm) := by
  intro n; unfold encode; rw [fieldOp_formatI]; exact defined_not_erased _ n (by decide)
theorem neI1 (a b : Reg) (imm : BitVec 12) : Statement (.neI1 a b imm) := by
  intro n; unfold encode; rw [fieldOp_formatI]; exact defined_not_erased _ n (by decide)
theorem ltI1 (a b : Reg) (imm : BitVec 12) : Statement (.ltI1 a b imm) := by
  intro n; unfold encode; rw [fieldOp_formatI]; exact defined_not_erased _ n (by decide)
theorem geI1 (a b : Reg) (imm : BitVec 12) : Statement (.geI1 a b imm) := by
  intro n; unfold encode; rw [fieldOp_formatI]; exact defined_not_erased _ n (by decide)
theorem ltuI1 (a b : Reg) (imm : BitVec 12) : Statement (.ltuI1 a b imm) := by
  intro n; unfold encode; rw [fieldOp_formatI]; exact defined_not_erased _ n (by decide)
theorem geuI1 (a b : Reg) (imm : BitVec 12) : Statement (.geuI1 a b imm) := by
  intro n; unfold encode; rw [fieldOp_formatI]; exact defined_not_erased _ n (by decide)
theorem minI1 (a b : Reg) (imm : BitVec 12) : Statement (.minI1 a b imm) := by
  intro n; unfold encode; rw [fieldOp_formatI]; exact defined_not_erased _ n (by decide)
theorem maxI1 (a b : Reg) (imm : BitVec 12) : Statement (.maxI1 a b imm) := by
  intro n; unfold encode; rw [fieldOp_formatI]; exact defined_not_erased _ n (by decide)
theorem addI2 (a b : Reg) (imm : BitVec 12) : Statement (.addI2 a b imm) := by
  intro n; unfold encode; rw [fieldOp_formatI]; exact defined_not_erased _ n (by decide)
theorem naddI2 (a b : Reg) (imm : BitVec 12) : Statement (.naddI2 a b imm) := by
  intro n; unfold encode; rw [fieldOp_formatI]; exact defined_not_erased _ n (by decide)
theorem andI2 (a b : Reg) (imm : BitVec 12) : Statement (.andI2 a b imm) := by
  intro n; unfold encode; rw [fieldOp_formatI]; exact defined_not_erased _ n (by decide)
theorem candI2 (a b : Reg) (imm : BitVec 12) : Statement (.candI2 a b imm) := by
  intro n; unfold encode; rw [fieldOp_formatI]; exact defined_not_erased _ n (by decide)
theorem orI2 (a b : Reg) (imm : BitVec 12) : Statement (.orI2 a b imm) := by
  intro n; unfold encode; rw [fieldOp_formatI]; exact defined_not_erased _ n (by decide)
theorem corI2 (a b : Reg) (imm : BitVec 12) : Statement (.corI2 a b imm) := by
  intro n; unfold encode; rw [fieldOp_formatI]; exact defined_not_erased _ n (by decide)
theorem xorI2 (a b : Reg) (imm : BitVec 12) : Statement (.xorI2 a b imm) := by
  intro n; unfold encode; rw [fieldOp_formatI]; exact defined_not_erased _ n (by decide)
theorem setI2 (a b : Reg) (imm : BitVec 12) : Statement (.setI2 a b imm) := by
  intro n; unfold encode; rw [fieldOp_formatI]; exact defined_not_erased _ n (by decide)
theorem eqI2 (a b : Reg) (imm : BitVec 12) : Statement (.eqI2 a b imm) := by
  intro n; unfold encode; rw [fieldOp_formatI]; exact defined_not_erased _ n (by decide)
theorem neI2 (a b : Reg) (imm : BitVec 12) : Statement (.neI2 a b imm) := by
  intro n; unfold encode; rw [fieldOp_formatI]; exact defined_not_erased _ n (by decide)
theorem ltI2 (a b : Reg) (imm : BitVec 12) : Statement (.ltI2 a b imm) := by
  intro n; unfold encode; rw [fieldOp_formatI]; exact defined_not_erased _ n (by decide)
theorem geI2 (a b : Reg) (imm : BitVec 12) : Statement (.geI2 a b imm) := by
  intro n; unfold encode; rw [fieldOp_formatI]; exact defined_not_erased _ n (by decide)
theorem ltuI2 (a b : Reg) (imm : BitVec 12) : Statement (.ltuI2 a b imm) := by
  intro n; unfold encode; rw [fieldOp_formatI]; exact defined_not_erased _ n (by decide)
theorem geuI2 (a b : Reg) (imm : BitVec 12) : Statement (.geuI2 a b imm) := by
  intro n; unfold encode; rw [fieldOp_formatI]; exact defined_not_erased _ n (by decide)
theorem minI2 (a b : Reg) (imm : BitVec 12) : Statement (.minI2 a b imm) := by
  intro n; unfold encode; rw [fieldOp_formatI]; exact defined_not_erased _ n (by decide)
theorem maxI2 (a b : Reg) (imm : BitVec 12) : Statement (.maxI2 a b imm) := by
  intro n; unfold encode; rw [fieldOp_formatI]; exact defined_not_erased _ n (by decide)
theorem addI3 (a b : Reg) (imm : BitVec 12) : Statement (.addI3 a b imm) := by
  intro n; unfold encode; rw [fieldOp_formatI]; exact defined_not_erased _ n (by decide)
theorem naddI3 (a b : Reg) (imm : BitVec 12) : Statement (.naddI3 a b imm) := by
  intro n; unfold encode; rw [fieldOp_formatI]; exact defined_not_erased _ n (by decide)
theorem andI3 (a b : Reg) (imm : BitVec 12) : Statement (.andI3 a b imm) := by
  intro n; unfold encode; rw [fieldOp_formatI]; exact defined_not_erased _ n (by decide)
theorem candI3 (a b : Reg) (imm : BitVec 12) : Statement (.candI3 a b imm) := by
  intro n; unfold encode; rw [fieldOp_formatI]; exact defined_not_erased _ n (by decide)
theorem orI3 (a b : Reg) (imm : BitVec 12) : Statement (.orI3 a b imm) := by
  intro n; unfold encode; rw [fieldOp_formatI]; exact defined_not_erased _ n (by decide)
theorem corI3 (a b : Reg) (imm : BitVec 12) : Statement (.corI3 a b imm) := by
  intro n; unfold encode; rw [fieldOp_formatI]; exact defined_not_erased _ n (by decide)
theorem xorI3 (a b : Reg) (imm : BitVec 12) : Statement (.xorI3 a b imm) := by
  intro n; unfold encode; rw [fieldOp_formatI]; exact defined_not_erased _ n (by decide)
theorem setI3 (a b : Reg) (imm : BitVec 12) : Statement (.setI3 a b imm) := by
  intro n; unfold encode; rw [fieldOp_formatI]; exact defined_not_erased _ n (by decide)
theorem eqI3 (a b : Reg) (imm : BitVec 12) : Statement (.eqI3 a b imm) := by
  intro n; unfold encode; rw [fieldOp_formatI]; exact defined_not_erased _ n (by decide)
theorem neI3 (a b : Reg) (imm : BitVec 12) : Statement (.neI3 a b imm) := by
  intro n; unfold encode; rw [fieldOp_formatI]; exact defined_not_erased _ n (by decide)
theorem ltI3 (a b : Reg) (imm : BitVec 12) : Statement (.ltI3 a b imm) := by
  intro n; unfold encode; rw [fieldOp_formatI]; exact defined_not_erased _ n (by decide)
theorem geI3 (a b : Reg) (imm : BitVec 12) : Statement (.geI3 a b imm) := by
  intro n; unfold encode; rw [fieldOp_formatI]; exact defined_not_erased _ n (by decide)
theorem ltuI3 (a b : Reg) (imm : BitVec 12) : Statement (.ltuI3 a b imm) := by
  intro n; unfold encode; rw [fieldOp_formatI]; exact defined_not_erased _ n (by decide)
theorem geuI3 (a b : Reg) (imm : BitVec 12) : Statement (.geuI3 a b imm) := by
  intro n; unfold encode; rw [fieldOp_formatI]; exact defined_not_erased _ n (by decide)
theorem minI3 (a b : Reg) (imm : BitVec 12) : Statement (.minI3 a b imm) := by
  intro n; unfold encode; rw [fieldOp_formatI]; exact defined_not_erased _ n (by decide)
theorem maxI3 (a b : Reg) (imm : BitVec 12) : Statement (.maxI3 a b imm) := by
  intro n; unfold encode; rw [fieldOp_formatI]; exact defined_not_erased _ n (by decide)
theorem retAdd (a b : Reg) (imm : BitVec 12) : Statement (.retAdd a b imm) := by
  intro n; unfold encode; rw [fieldOp_formatI]; exact defined_not_erased _ n (by decide)
theorem retNadd (a b : Reg) (imm : BitVec 12) : Statement (.retNadd a b imm) := by
  intro n; unfold encode; rw [fieldOp_formatI]; exact defined_not_erased _ n (by decide)
theorem retAnd (a b : Reg) (imm : BitVec 12) : Statement (.retAnd a b imm) := by
  intro n; unfold encode; rw [fieldOp_formatI]; exact defined_not_erased _ n (by decide)
theorem retCand (a b : Reg) (imm : BitVec 12) : Statement (.retCand a b imm) := by
  intro n; unfold encode; rw [fieldOp_formatI]; exact defined_not_erased _ n (by decide)
theorem retOr (a b : Reg) (imm : BitVec 12) : Statement (.retOr a b imm) := by
  intro n; unfold encode; rw [fieldOp_formatI]; exact defined_not_erased _ n (by decide)
theorem retCor (a b : Reg) (imm : BitVec 12) : Statement (.retCor a b imm) := by
  intro n; unfold encode; rw [fieldOp_formatI]; exact defined_not_erased _ n (by decide)
theorem retXor (a b : Reg) (imm : BitVec 12) : Statement (.retXor a b imm) := by
  intro n; unfold encode; rw [fieldOp_formatI]; exact defined_not_erased _ n (by decide)
theorem retSet (a b : Reg) (imm : BitVec 12) : Statement (.retSet a b imm) := by
  intro n; unfold encode; rw [fieldOp_formatI]; exact defined_not_erased _ n (by decide)
theorem retEq (a b : Reg) (imm : BitVec 12) : Statement (.retEq a b imm) := by
  intro n; unfold encode; rw [fieldOp_formatI]; exact defined_not_erased _ n (by decide)
theorem retNe (a b : Reg) (imm : BitVec 12) : Statement (.retNe a b imm) := by
  intro n; unfold encode; rw [fieldOp_formatI]; exact defined_not_erased _ n (by decide)
theorem retLt (a b : Reg) (imm : BitVec 12) : Statement (.retLt a b imm) := by
  intro n; unfold encode; rw [fieldOp_formatI]; exact defined_not_erased _ n (by decide)
theorem retGe (a b : Reg) (imm : BitVec 12) : Statement (.retGe a b imm) := by
  intro n; unfold encode; rw [fieldOp_formatI]; exact defined_not_erased _ n (by decide)
theorem retLtu (a b : Reg) (imm : BitVec 12) : Statement (.retLtu a b imm) := by
  intro n; unfold encode; rw [fieldOp_formatI]; exact defined_not_erased _ n (by decide)
theorem retGeu (a b : Reg) (imm : BitVec 12) : Statement (.retGeu a b imm) := by
  intro n; unfold encode; rw [fieldOp_formatI]; exact defined_not_erased _ n (by decide)
theorem retMin (a b : Reg) (imm : BitVec 12) : Statement (.retMin a b imm) := by
  intro n; unfold encode; rw [fieldOp_formatI]; exact defined_not_erased _ n (by decide)
theorem retMax (a b : Reg) (imm : BitVec 12) : Statement (.retMax a b imm) := by
  intro n; unfold encode; rw [fieldOp_formatI]; exact defined_not_erased _ n (by decide)
theorem shlr (a b : Reg) (l r : Nat) : Statement (.shlr a b l r) := by
  intro n; unfold encode; rw [fieldOp_formatShift]; exact defined_not_erased _ n (by decide)
theorem shlr1 (a b : Reg) (l r : Nat) : Statement (.shlr1 a b l r) := by
  intro n; unfold encode; rw [fieldOp_formatShift]; exact defined_not_erased _ n (by decide)
theorem salr (a b : Reg) (l r : Nat) : Statement (.salr a b l r) := by
  intro n; unfold encode; rw [fieldOp_formatShift]; exact defined_not_erased _ n (by decide)
theorem rorI (a b : Reg) (r : Nat) : Statement (.rorI a b r) := by
  intro n; unfold encode; rw [fieldOp_formatShift]; exact defined_not_erased _ n (by decide)
theorem mulI (a b : Reg) (imm : BitVec 12) : Statement (.mulI a b imm) := by
  intro n; unfold encode; rw [fieldOp_formatI]; exact defined_not_erased _ n (by decide)
theorem divI (a b : Reg) (imm : BitVec 12) : Statement (.divI a b imm) := by
  intro n; unfold encode; rw [fieldOp_formatI]; exact defined_not_erased _ n (by decide)
theorem modI (a b : Reg) (imm : BitVec 12) : Statement (.modI a b imm) := by
  intro n; unfold encode; rw [fieldOp_formatI]; exact defined_not_erased _ n (by decide)
theorem divuI (a b : Reg) (imm : BitVec 12) : Statement (.divuI a b imm) := by
  intro n; unfold encode; rw [fieldOp_formatI]; exact defined_not_erased _ n (by decide)
theorem moduI (a b : Reg) (imm : BitVec 12) : Statement (.moduI a b imm) := by
  intro n; unfold encode; rw [fieldOp_formatI]; exact defined_not_erased _ n (by decide)
theorem add (a b d : Reg) : Statement (.add a b d) := by
  intro n; unfold encode; rw [fieldOp_formatR]; exact defined_not_erased _ n (by decide)
theorem nadd (a b d : Reg) : Statement (.nadd a b d) := by
  intro n; unfold encode; rw [fieldOp_formatR]; exact defined_not_erased _ n (by decide)
theorem and (a b d : Reg) : Statement (.and a b d) := by
  intro n; unfold encode; rw [fieldOp_formatR]; exact defined_not_erased _ n (by decide)
theorem cand (a b d : Reg) : Statement (.cand a b d) := by
  intro n; unfold encode; rw [fieldOp_formatR]; exact defined_not_erased _ n (by decide)
theorem or (a b d : Reg) : Statement (.or a b d) := by
  intro n; unfold encode; rw [fieldOp_formatR]; exact defined_not_erased _ n (by decide)
theorem cor (a b d : Reg) : Statement (.cor a b d) := by
  intro n; unfold encode; rw [fieldOp_formatR]; exact defined_not_erased _ n (by decide)
theorem xor (a b d : Reg) : Statement (.xor a b d) := by
  intro n; unfold encode; rw [fieldOp_formatR]; exact defined_not_erased _ n (by decide)
theorem xnor (a b d : Reg) : Statement (.xnor a b d) := by
  intro n; unfold encode; rw [fieldOp_formatR]; exact defined_not_erased _ n (by decide)
theorem eq (a b d : Reg) : Statement (.eq a b d) := by
  intro n; unfold encode; rw [fieldOp_formatR]; exact defined_not_erased _ n (by decide)
theorem ne (a b d : Reg) : Statement (.ne a b d) := by
  intro n; unfold encode; rw [fieldOp_formatR]; exact defined_not_erased _ n (by decide)
theorem lt (a b d : Reg) : Statement (.lt a b d) := by
  intro n; unfold encode; rw [fieldOp_formatR]; exact defined_not_erased _ n (by decide)
theorem ge (a b d : Reg) : Statement (.ge a b d) := by
  intro n; unfold encode; rw [fieldOp_formatR]; exact defined_not_erased _ n (by decide)
theorem ltu (a b d : Reg) : Statement (.ltu a b d) := by
  intro n; unfold encode; rw [fieldOp_formatR]; exact defined_not_erased _ n (by decide)
theorem geu (a b d : Reg) : Statement (.geu a b d) := by
  intro n; unfold encode; rw [fieldOp_formatR]; exact defined_not_erased _ n (by decide)
theorem min (a b d : Reg) : Statement (.min a b d) := by
  intro n; unfold encode; rw [fieldOp_formatR]; exact defined_not_erased _ n (by decide)
theorem max (a b d : Reg) : Statement (.max a b d) := by
  intro n; unfold encode; rw [fieldOp_formatR]; exact defined_not_erased _ n (by decide)
theorem shl (a b d : Reg) : Statement (.shl a b d) := by
  intro n; unfold encode; rw [fieldOp_formatR]; exact defined_not_erased _ n (by decide)
theorem shr (a b d : Reg) : Statement (.shr a b d) := by
  intro n; unfold encode; rw [fieldOp_formatR]; exact defined_not_erased _ n (by decide)
theorem sar (a b d : Reg) : Statement (.sar a b d) := by
  intro n; unfold encode; rw [fieldOp_formatR]; exact defined_not_erased _ n (by decide)
theorem ror (a b d : Reg) : Statement (.ror a b d) := by
  intro n; unfold encode; rw [fieldOp_formatR]; exact defined_not_erased _ n (by decide)
theorem mul (a b d : Reg) : Statement (.mul a b d) := by
  intro n; unfold encode; rw [fieldOp_formatR]; exact defined_not_erased _ n (by decide)
theorem div (a b d : Reg) : Statement (.div a b d) := by
  intro n; unfold encode; rw [fieldOp_formatR]; exact defined_not_erased _ n (by decide)
theorem mod (a b d : Reg) : Statement (.mod a b d) := by
  intro n; unfold encode; rw [fieldOp_formatR]; exact defined_not_erased _ n (by decide)
theorem divu (a b d : Reg) : Statement (.divu a b d) := by
  intro n; unfold encode; rw [fieldOp_formatR]; exact defined_not_erased _ n (by decide)
theorem modu (a b d : Reg) : Statement (.modu a b d) := by
  intro n; unfold encode; rw [fieldOp_formatR]; exact defined_not_erased _ n (by decide)
theorem adds (a b : Reg) (n : Nat) (d : Reg) : Statement (.adds a b n d) := by
  intro n; unfold encode; rw [fieldOp_formatR]; exact defined_not_erased _ n (by decide)
theorem nadds (a b : Reg) (n : Nat) (d : Reg) : Statement (.nadds a b n d) := by
  intro n; unfold encode; rw [fieldOp_formatR]; exact defined_not_erased _ n (by decide)
theorem add3 (a b c d : Reg) : Statement (.add3 a b c d) := by
  intro n; unfold encode; rw [fieldOp_formatR]; exact defined_not_erased _ n (by decide)
theorem nadd3 (a b c d : Reg) : Statement (.nadd3 a b c d) := by
  intro n; unfold encode; rw [fieldOp_formatR]; exact defined_not_erased _ n (by decide)
theorem and3 (a b c d : Reg) : Statement (.and3 a b c d) := by
  intro n; unfold encode; rw [fieldOp_formatR]; exact defined_not_erased _ n (by decide)
theorem cand3 (a b c d : Reg) : Statement (.cand3 a b c d) := by
  intro n; unfold encode; rw [fieldOp_formatR]; exact defined_not_erased _ n (by decide)
theorem or3 (a b c d : Reg) : Statement (.or3 a b c d) := by
  intro n; unfold encode; rw [fieldOp_formatR]; exact defined_not_erased _ n (by decide)
theorem cor3 (a b c d : Reg) : Statement (.cor3 a b c d) := by
  intro n; unfold encode; rw [fieldOp_formatR]; exact defined_not_erased _ n (by decide)
theorem xor3 (a b c d : Reg) : Statement (.xor3 a b c d) := by
  intro n; unfold encode; rw [fieldOp_formatR]; exact defined_not_erased _ n (by decide)
theorem xnor3 (a b c d : Reg) : Statement (.xnor3 a b c d) := by
  intro n; unfold encode; rw [fieldOp_formatR]; exact defined_not_erased _ n (by decide)
theorem andeq (a b c d : Reg) : Statement (.andeq a b c d) := by
  intro n; unfold encode; rw [fieldOp_formatR]; exact defined_not_erased _ n (by decide)
theorem andne (a b c d : Reg) : Statement (.andne a b c d) := by
  intro n; unfold encode; rw [fieldOp_formatR]; exact defined_not_erased _ n (by decide)
theorem andlt (a b c d : Reg) : Statement (.andlt a b c d) := by
  intro n; unfold encode; rw [fieldOp_formatR]; exact defined_not_erased _ n (by decide)
theorem andge (a b c d : Reg) : Statement (.andge a b c d) := by
  intro n; unfold encode; rw [fieldOp_formatR]; exact defined_not_erased _ n (by decide)
theorem andltu (a b c d : Reg) : Statement (.andltu a b c d) := by
  intro n; unfold encode; rw [fieldOp_formatR]; exact defined_not_erased _ n (by decide)
theorem andgeu (a b c d : Reg) : Statement (.andgeu a b c d) := by
  intro n; unfold encode; rw [fieldOp_formatR]; exact defined_not_erased _ n (by decide)
theorem minu3 (a b c d : Reg) : Statement (.minu3 a b c d) := by
  intro n; unfold encode; rw [fieldOp_formatR]; exact defined_not_erased _ n (by decide)
theorem maxu3 (a b c d : Reg) : Statement (.maxu3 a b c d) := by
  intro n; unfold encode; rw [fieldOp_formatR]; exact defined_not_erased _ n (by decide)
theorem oreq (a b c d : Reg) : Statement (.oreq a b c d) := by
  intro n; unfold encode; rw [fieldOp_formatR]; exact defined_not_erased _ n (by decide)
theorem orne (a b c d : Reg) : Statement (.orne a b c d) := by
  intro n; unfold encode; rw [fieldOp_formatR]; exact defined_not_erased _ n (by decide)
theorem orlt (a b c d : Reg) : Statement (.orlt a b c d) := by
  intro n; unfold encode; rw [fieldOp_formatR]; exact defined_not_erased _ n (by decide)
theorem orge (a b c d : Reg) : Statement (.orge a b c d) := by
  intro n; unfold encode; rw [fieldOp_formatR]; exact defined_not_erased _ n (by decide)
theorem orltu (a b c d : Reg) : Statement (.orltu a b c d) := by
  intro n; unfold encode; rw [fieldOp_formatR]; exact defined_not_erased _ n (by decide)
theorem orgeu (a b c d : Reg) : Statement (.orgeu a b c d) := by
  intro n; unfold encode; rw [fieldOp_formatR]; exact defined_not_erased _ n (by decide)
theorem min3 (a b c d : Reg) : Statement (.min3 a b c d) := by
  intro n; unfold encode; rw [fieldOp_formatR]; exact defined_not_erased _ n (by decide)
theorem max3 (a b c d : Reg) : Statement (.max3 a b c d) := by
  intro n; unfold encode; rw [fieldOp_formatR]; exact defined_not_erased _ n (by decide)
theorem sel (a b c d : Reg) : Statement (.sel a b c d) := by
  intro n; unfold encode; rw [fieldOp_formatR]; exact defined_not_erased _ n (by decide)
theorem seln (a b c d : Reg) : Statement (.seln a b c d) := by
  intro n; unfold encode; rw [fieldOp_formatR]; exact defined_not_erased _ n (by decide)
theorem selp (a b c d : Reg) : Statement (.selp a b c d) := by
  intro n; unfold encode; rw [fieldOp_formatR]; exact defined_not_erased _ n (by decide)
theorem madd (a b c d : Reg) : Statement (.madd a b c d) := by
  intro n; unfold encode; rw [fieldOp_formatR]; exact defined_not_erased _ n (by decide)
theorem nmadd (a b c d : Reg) : Statement (.nmadd a b c d) := by
  intro n; unfold encode; rw [fieldOp_formatR]; exact defined_not_erased _ n (by decide)
theorem absS (a d : Reg) : Statement (.absS a d) := by
  intro n; unfold encode; rw [fieldOp_formatFP]; exact defined_not_erased _ n (by decide)
theorem absD (a d : Reg) : Statement (.absD a d) := by
  intro n; unfold encode; rw [fieldOp_formatFP]; exact defined_not_erased _ n (by decide)
theorem negS (a d : Reg) : Statement (.negS a d) := by
  intro n; unfold encode; rw [fieldOp_formatFP]; exact defined_not_erased _ n (by decide)
theorem negD (a d : Reg) : Statement (.negD a d) := by
  intro n; unfold encode; rw [fieldOp_formatFP]; exact defined_not_erased _ n (by decide)
theorem sqrtS (a d : Reg) : Statement (.sqrtS a d) := by
  intro n; unfold encode; rw [fieldOp_formatFP]; exact defined_not_erased _ n (by decide)
theorem sqrtD (a d : Reg) : Statement (.sqrtD a d) := by
  intro n; unfold encode; rw [fieldOp_formatFP]; exact defined_not_erased _ n (by decide)
theorem cvtSD (a d : Reg) : Statement (.cvtSD a d) := by
  intro n; unfold encode; rw [fieldOp_formatFP]; exact defined_not_erased _ n (by decide)
theorem cvtDS (a d : Reg) : Statement (.cvtDS a d) := by
  intro n; unfold encode; rw [fieldOp_formatFP]; exact defined_not_erased _ n (by decide)
theorem cvtSI (a d : Reg) : Statement (.cvtSI a d) := by
  intro n; unfold encode; rw [fieldOp_formatFP]; exact defined_not_erased _ n (by decide)
theorem cvtDI (a d : Reg) : Statement (.cvtDI a d) := by
  intro n; unfold encode; rw [fieldOp_formatFP]; exact defined_not_erased _ n (by decide)
theorem cvtIS (a d : Reg) : Statement (.cvtIS a d) := by
  intro n; unfold encode; rw [fieldOp_formatFP]; exact defined_not_erased _ n (by decide)
theorem cvtID (a d : Reg) : Statement (.cvtID a d) := by
  intro n; unfold encode; rw [fieldOp_formatFP]; exact defined_not_erased _ n (by decide)
theorem rintS (a d : Reg) : Statement (.rintS a d) := by
  intro n; unfold encode; rw [fieldOp_formatFP]; exact defined_not_erased _ n (by decide)
theorem rintD (a d : Reg) : Statement (.rintD a d) := by
  intro n; unfold encode; rw [fieldOp_formatFP]; exact defined_not_erased _ n (by decide)
theorem eqS (a b d : Reg) : Statement (.eqS a b d) := by
  intro n; unfold encode; rw [fieldOp_formatFP]; exact defined_not_erased _ n (by decide)
theorem eqD (a b d : Reg) : Statement (.eqD a b d) := by
  intro n; unfold encode; rw [fieldOp_formatFP]; exact defined_not_erased _ n (by decide)
theorem neS (a b d : Reg) : Statement (.neS a b d) := by
  intro n; unfold encode; rw [fieldOp_formatFP]; exact defined_not_erased _ n (by decide)
theorem neD (a b d : Reg) : Statement (.neD a b d) := by
  intro n; unfold encode; rw [fieldOp_formatFP]; exact defined_not_erased _ n (by decide)
theorem ltS (a b d : Reg) : Statement (.ltS a b d) := by
  intro n; unfold encode; rw [fieldOp_formatFP]; exact defined_not_erased _ n (by decide)
theorem ltD (a b d : Reg) : Statement (.ltD a b d) := by
  intro n; unfold encode; rw [fieldOp_formatFP]; exact defined_not_erased _ n (by decide)
theorem geS (a b d : Reg) : Statement (.geS a b d) := by
  intro n; unfold encode; rw [fieldOp_formatFP]; exact defined_not_erased _ n (by decide)
theorem geD (a b d : Reg) : Statement (.geD a b d) := by
  intro n; unfold encode; rw [fieldOp_formatFP]; exact defined_not_erased _ n (by decide)
theorem infS (a b d : Reg) : Statement (.infS a b d) := by
  intro n; unfold encode; rw [fieldOp_formatFP]; exact defined_not_erased _ n (by decide)
theorem infD (a b d : Reg) : Statement (.infD a b d) := by
  intro n; unfold encode; rw [fieldOp_formatFP]; exact defined_not_erased _ n (by decide)
theorem nanS (a b d : Reg) : Statement (.nanS a b d) := by
  intro n; unfold encode; rw [fieldOp_formatFP]; exact defined_not_erased _ n (by decide)
theorem nanD (a b d : Reg) : Statement (.nanD a b d) := by
  intro n; unfold encode; rw [fieldOp_formatFP]; exact defined_not_erased _ n (by decide)
theorem addS (a b d : Reg) : Statement (.addS a b d) := by
  intro n; unfold encode; rw [fieldOp_formatFP]; exact defined_not_erased _ n (by decide)
theorem addD (a b d : Reg) : Statement (.addD a b d) := by
  intro n; unfold encode; rw [fieldOp_formatFP]; exact defined_not_erased _ n (by decide)
theorem naddS (a b d : Reg) : Statement (.naddS a b d) := by
  intro n; unfold encode; rw [fieldOp_formatFP]; exact defined_not_erased _ n (by decide)
theorem naddD (a b d : Reg) : Statement (.naddD a b d) := by
  intro n; unfold encode; rw [fieldOp_formatFP]; exact defined_not_erased _ n (by decide)
theorem mulS (a b d : Reg) : Statement (.mulS a b d) := by
  intro n; unfold encode; rw [fieldOp_formatFP]; exact defined_not_erased _ n (by decide)
theorem mulD (a b d : Reg) : Statement (.mulD a b d) := by
  intro n; unfold encode; rw [fieldOp_formatFP]; exact defined_not_erased _ n (by decide)
theorem divS (a b d : Reg) : Statement (.divS a b d) := by
  intro n; unfold encode; rw [fieldOp_formatFP]; exact defined_not_erased _ n (by decide)
theorem divD (a b d : Reg) : Statement (.divD a b d) := by
  intro n; unfold encode; rw [fieldOp_formatFP]; exact defined_not_erased _ n (by decide)
theorem minS (a b d : Reg) : Statement (.minS a b d) := by
  intro n; unfold encode; rw [fieldOp_formatFP]; exact defined_not_erased _ n (by decide)
theorem minD (a b d : Reg) : Statement (.minD a b d) := by
  intro n; unfold encode; rw [fieldOp_formatFP]; exact defined_not_erased _ n (by decide)
theorem maxS (a b d : Reg) : Statement (.maxS a b d) := by
  intro n; unfold encode; rw [fieldOp_formatFP]; exact defined_not_erased _ n (by decide)
theorem maxD (a b d : Reg) : Statement (.maxD a b d) := by
  intro n; unfold encode; rw [fieldOp_formatFP]; exact defined_not_erased _ n (by decide)
theorem andeqS (a b c d : Reg) : Statement (.andeqS a b c d) := by
  intro n; unfold encode; rw [fieldOp_formatFP]; exact defined_not_erased _ n (by decide)
theorem andeqD (a b c d : Reg) : Statement (.andeqD a b c d) := by
  intro n; unfold encode; rw [fieldOp_formatFP]; exact defined_not_erased _ n (by decide)
theorem andneS (a b c d : Reg) : Statement (.andneS a b c d) := by
  intro n; unfold encode; rw [fieldOp_formatFP]; exact defined_not_erased _ n (by decide)
theorem andneD (a b c d : Reg) : Statement (.andneD a b c d) := by
  intro n; unfold encode; rw [fieldOp_formatFP]; exact defined_not_erased _ n (by decide)
theorem andltS (a b c d : Reg) : Statement (.andltS a b c d) := by
  intro n; unfold encode; rw [fieldOp_formatFP]; exact defined_not_erased _ n (by decide)
theorem andltD (a b c d : Reg) : Statement (.andltD a b c d) := by
  intro n; unfold encode; rw [fieldOp_formatFP]; exact defined_not_erased _ n (by decide)
theorem andgeS (a b c d : Reg) : Statement (.andgeS a b c d) := by
  intro n; unfold encode; rw [fieldOp_formatFP]; exact defined_not_erased _ n (by decide)
theorem andgeD (a b c d : Reg) : Statement (.andgeD a b c d) := by
  intro n; unfold encode; rw [fieldOp_formatFP]; exact defined_not_erased _ n (by decide)
theorem oreqS (a b c d : Reg) : Statement (.oreqS a b c d) := by
  intro n; unfold encode; rw [fieldOp_formatFP]; exact defined_not_erased _ n (by decide)
theorem oreqD (a b c d : Reg) : Statement (.oreqD a b c d) := by
  intro n; unfold encode; rw [fieldOp_formatFP]; exact defined_not_erased _ n (by decide)
theorem orneS (a b c d : Reg) : Statement (.orneS a b c d) := by
  intro n; unfold encode; rw [fieldOp_formatFP]; exact defined_not_erased _ n (by decide)
theorem orneD (a b c d : Reg) : Statement (.orneD a b c d) := by
  intro n; unfold encode; rw [fieldOp_formatFP]; exact defined_not_erased _ n (by decide)
theorem orltS (a b c d : Reg) : Statement (.orltS a b c d) := by
  intro n; unfold encode; rw [fieldOp_formatFP]; exact defined_not_erased _ n (by decide)
theorem orltD (a b c d : Reg) : Statement (.orltD a b c d) := by
  intro n; unfold encode; rw [fieldOp_formatFP]; exact defined_not_erased _ n (by decide)
theorem orgeS (a b c d : Reg) : Statement (.orgeS a b c d) := by
  intro n; unfold encode; rw [fieldOp_formatFP]; exact defined_not_erased _ n (by decide)
theorem orgeD (a b c d : Reg) : Statement (.orgeD a b c d) := by
  intro n; unfold encode; rw [fieldOp_formatFP]; exact defined_not_erased _ n (by decide)
theorem add3S (a b c d : Reg) : Statement (.add3S a b c d) := by
  intro n; unfold encode; rw [fieldOp_formatFP]; exact defined_not_erased _ n (by decide)
theorem add3D (a b c d : Reg) : Statement (.add3D a b c d) := by
  intro n; unfold encode; rw [fieldOp_formatFP]; exact defined_not_erased _ n (by decide)
theorem nadd3S (a b c d : Reg) : Statement (.nadd3S a b c d) := by
  intro n; unfold encode; rw [fieldOp_formatFP]; exact defined_not_erased _ n (by decide)
theorem nadd3D (a b c d : Reg) : Statement (.nadd3D a b c d) := by
  intro n; unfold encode; rw [fieldOp_formatFP]; exact defined_not_erased _ n (by decide)
theorem maddS (a b c d : Reg) : Statement (.maddS a b c d) := by
  intro n; unfold encode; rw [fieldOp_formatFP]; exact defined_not_erased _ n (by decide)
theorem maddD (a b c d : Reg) : Statement (.maddD a b c d) := by
  intro n; unfold encode; rw [fieldOp_formatFP]; exact defined_not_erased _ n (by decide)
theorem nmaddS (a b c d : Reg) : Statement (.nmaddS a b c d) := by
  intro n; unfold encode; rw [fieldOp_formatFP]; exact defined_not_erased _ n (by decide)
theorem nmaddD (a b c d : Reg) : Statement (.nmaddD a b c d) := by
  intro n; unfold encode; rw [fieldOp_formatFP]; exact defined_not_erased _ n (by decide)
theorem min3S (a b c d : Reg) : Statement (.min3S a b c d) := by
  intro n; unfold encode; rw [fieldOp_formatFP]; exact defined_not_erased _ n (by decide)
theorem min3D (a b c d : Reg) : Statement (.min3D a b c d) := by
  intro n; unfold encode; rw [fieldOp_formatFP]; exact defined_not_erased _ n (by decide)
theorem max3S (a b c d : Reg) : Statement (.max3S a b c d) := by
  intro n; unfold encode; rw [fieldOp_formatFP]; exact defined_not_erased _ n (by decide)
theorem max3D (a b c d : Reg) : Statement (.max3D a b c d) := by
  intro n; unfold encode; rw [fieldOp_formatFP]; exact defined_not_erased _ n (by decide)
theorem scall (imm : BitVec 12) : Statement (.scall imm) := by
  intro n; unfold encode; rw [fieldOp_formatI]; exact defined_not_erased _ n (by decide)
theorem dcall (imm : BitVec 12) : Statement (.dcall imm) := by
  intro n; unfold encode; rw [fieldOp_formatI]; exact defined_not_erased _ n (by decide)
theorem sret (imm : BitVec 12) : Statement (.sret imm) := by
  intro n; unfold encode; rw [fieldOp_formatI]; exact defined_not_erased _ n (by decide)
theorem movrc (a d : Reg) : Statement (.movrc a d) := by
  intro n; unfold encode; rw [fieldOp_formatR]; exact defined_not_erased _ n (by decide)
theorem movec (a d : Reg) : Statement (.movec a d) := by
  intro n; unfold encode; rw [fieldOp_formatR]; exact defined_not_erased _ n (by decide)
theorem mover (a d : Reg) : Statement (.mover a d) := by
  intro n; unfold encode; rw [fieldOp_formatR]; exact defined_not_erased _ n (by decide)
theorem movre (a d : Reg) : Statement (.movre a d) := by
  intro n; unfold encode; rw [fieldOp_formatR]; exact defined_not_erased _ n (by decide)

end Sys2Proof.Laws.DefinedOpcode
end

