-- ==== Sys2Proof/Tests/Slice0.lean ====
section
/-! SUPPORT. Tests. The words are printed in the specification or written out from its encoding tables; the expected results are
those of the vectors of section 2 of spec/95_test_vectors.md, which the specification computed from its rules. The last section
shows for each statement of Certificates/Slice0/Obligations.lean that has hypotheses a state and operands that meet them. -/

namespace Sys2Proof.Tests

open Sys2Proof Sys2Proof.Machine

set_option Elab.async false

/-! ### Building small machines -/

/-- Thirty-two registers that hold 0 but for those listed. -/
def registers (l : List (Reg × Word)) : Vector Word 32 := l.foldl (fun v p => v.set p.1 p.2) (Vector.replicate 32 0)

/-- Bytes of memory. -/
def withBytes (m : Memory) (l : List (Nat × Nat)) : Memory := l.foldl (fun m p => m.write p.1 (BitVec.ofNat 8 p.2)) m

/-- The memory that the examples of spec/41_load_store.md share. -/
def sharedBytes : List (Nat × Nat) :=
  [(0x1028, 0x88), (0x1029, 0x87), (0x102A, 0x86), (0x102B, 0x85), (0x102C, 0x84), (0x102D, 0x83), (0x102E, 0x82), (0x102F, 0x81)]

/-- Instruction words, the first one at `a`. -/
def withWords (m : Memory) (a : Word) : List (BitVec 32) → Memory
  | [] => m
  | w :: ws => withWords (m.writeBytes Config.addrBits a (leBytes 4 w.toNat)) (a + 4) ws

/-- A machine with these words at its pc, these general and exception registers, this protection and these bytes. -/
def machine (pc : Word) (ws : List (BitVec 32)) (r e : List (Reg × Word)) (denied : List Denial) (bytes : List (Nat × Nat)) : State :=
  { State.reset with
    pc := pc, r := registers r, e := registers e, denied := denied,
    mem := withWords (withBytes (withBytes [] sharedBytes) bytes) (pc &&& ~~~3) ws }

/-- Policy K of spec/95_test_vectors.md: nothing at or above 0x80000000 may be touched at EL0. -/
def policyK : List Denial :=
  [⟨0, .fetch, none, 0x80000000, 0xFFFFFFFFFFFFFFFF⟩, ⟨0, .load, none, 0x80000000, 0xFFFFFFFFFFFFFFFF⟩,
    ⟨0, .store, none, 0x80000000, 0xFFFFFFFFFFFFFFFF⟩]

/-- What a vector says the step wrote. -/
inductive Written where
  | general (i : Reg) (v : Word)
  | exception (i : Reg) (v : Word)
  | pc (v : Word)
  | byte (a : Nat) (v : Byte)
  deriving DecidableEq, Repr

/-- Another value of `OP_NOP`: the last opcode number that the source leaves undefined. -/
def nop63 : Config.NopCode := { code := 63, isFree := by decide }

/-- Another value of `ADDR_BITS`. -/
def bits32 : Config.AddrBits := { count := 32, atLeast := by decide, atMost := by decide }

def applyWritten (s : State) : Written → State
  | .general i v => { s with r := s.r.set i v }
  | .exception i v => { s with e := s.e.set i v }
  | .pc v => { s with pc := v }
  | .byte a v => { s with mem := s.mem.write a v }

/-- One step of `s` writes what is listed and leaves every other register and byte as it was. -/
noncomputable def obeys (s : State) (l : List Written) : Bool :=
  let u := l.foldl applyWritten s
  match step s with
  | .next t => decide (t.r = u.r) && decide (t.e = u.e) && decide (t.pc = u.pc) && decide (t.mem = u.mem)
  | _ => false

def isNext : Answer → Bool
  | .next _ => true
  | _ => false

theorem next_of {x : Answer} (h : isNext x = true) : ∃ t, x = .next t := by
  cases x with
  | next t => exact ⟨t, rfl⟩
  | fault f => simp [isNext] at h
  | refused r => simp [isNext] at h

/-! ### Well-formedness: one ill-formed term for each check -/

theorem test_refuses_scale : Instr.wf (.lbuX 1 2 4 3) = false := by decide
theorem test_refuses_left_amount : Instr.wf (.shlr 1 2 64 0) = false := by decide
theorem test_refuses_right_amount : Instr.wf (.shlr 1 2 0 64) = false := by decide
theorem test_refuses_rotate_amount : Instr.wf (.rorI 1 2 64) = false := by decide
theorem test_refuses_add_shift : Instr.wf (.adds 1 2 16 3) = false := by decide
theorem test_accepts_largest_amounts :
    [Instr.ldX 31 31 3 31, .sdX 31 31 3 31, .salr 31 31 63 63, .rorI 31 31 63, .adds 31 31 15 31].all Instr.wf = true := by decide

/-! ### Decoding: one word for every constructor -/

theorem test_decode_nop :
    ([
      0x00123456] : List (BitVec 32)).map (decode Config.opNop) =
    ([
      .nop 1193046] : List Instr).map .ok := by decide +kernel

theorem test_decode_jumps :
    ([
      0x08000003, 0x0FFFFFFE] : List (BitVec 32)).map (decode Config.opNop) =
    ([
      .j 3, .jal 67108862] : List Instr).map .ok := by decide +kernel

theorem test_decode_branches :
    ([
      0x40220004, 0x44220004, 0x48220004, 0x4C220004, 0x50220004, 0x54220004, 0x2025FFFD, 0x2425FFFD, 0x2825FFFD,
      0x2C25FFFD, 0x3025FFFD, 0x3425FFFD, 0x5862FFFB, 0x5CA4FFFB, 0x38E00002, 0x3CBFFFFF] : List (BitVec 32)).map (decode Config.opNop) =
    ([
      .beq 1 2 4, .bne 1 2 4, .blt 1 2 4, .bge 1 2 4, .bltu 1 2 4, .bgeu 1 2 4, .beqi 1 5 65533, .bnei 1 5 65533,
      .blti 1 5 65533, .bgei 1 5 65533, .bltui 1 5 65533, .bgeui 1 5 65533, .loop 3 2 65531, .loopd 5 4 65531, .jr 7 2,
      .jalr 5 31 65535] : List Instr).map .ok := by decide +kernel

theorem test_decode_loads :
    ([
      0x608A0028, 0x608A1028, 0x608A2028, 0x608A3028, 0x608A4028, 0x608A5028, 0x608A6028, 0x608A7028] : List (BitVec 32)).map (decode Config.opNop) =
    ([
      .lbu 4 10 40, .lhu 4 10 40, .lwu 4 10 40, .ldu 4 10 40, .lb 4 10 40, .lh 4 10 40, .lw 4 10 40, .ld 4 10 40] : List Instr).map .ok := by decide +kernel

theorem test_decode_stores :
    ([
      0x64940FF8, 0x64941FF8, 0x64942FF8, 0x64943FF8] : List (BitVec 32)).map (decode Config.opNop) =
    ([
      .sb 4 20 4088, .sh 4 20 4088, .sw 4 20 4088, .sd 4 20 4088] : List Instr).map .ok := by decide +kernel

theorem test_decode_indexed_loads :
    ([
      0x68860C0A, 0x68861C0A, 0x68862C0A, 0x68863C0A, 0x68864C0A, 0x68865C0A, 0x68866C0A, 0x68867C0A] : List (BitVec 32)).map (decode Config.opNop) =
    ([
      .lbuX 4 6 3 10, .lhuX 4 6 3 10, .lwuX 4 6 3 10, .lduX 4 6 3 10, .lbX 4 6 3 10, .lhX 4 6 3 10, .lwX 4 6 3 10,
      .ldX 4 6 3 10] : List Instr).map .ok := by decide +kernel

theorem test_decode_indexed_stores :
    ([
      0x6C860E80, 0x6C861A9F, 0x6C862680, 0x6D233C20] : List (BitVec 32)).map (decode Config.opNop) =
    ([
      .sbX 4 6 3 20, .shX 4 6 2 20, .swX 4 6 1 20, .sdX 9 3 3 1] : List Instr).map .ok := by decide +kernel

theorem test_decode_alui :
    ([
      0x8065007D, 0x8065107D, 0x8065207D, 0x8065307D, 0x8065407D, 0x8065507D, 0x8065607D, 0x8065707D, 0x8065807D,
      0x8065907D, 0x8065A07D, 0x8065B07D, 0x8065C07D, 0x8065D07D, 0x8065E07D, 0x8065F07D] : List (BitVec 32)).map (decode Config.opNop) =
    ([
      .addI 3 5 125, .naddI 3 5 125, .andI 3 5 125, .candI 3 5 125, .orI 3 5 125, .corI 3 5 125, .xorI 3 5 125,
      .setI 3 5 125, .eqI 3 5 125, .neI 3 5 125, .ltI 3 5 125, .geI 3 5 125, .ltuI 3 5 125, .geuI 3 5 125, .minI 3 5 125,
      .maxI 3 5 125] : List Instr).map .ok := by decide +kernel

theorem test_decode_alui1 :
    ([
      0x846506A0, 0x846516A0, 0x846526A0, 0x846536A0, 0x846546A0, 0x846556A0, 0x846566A0, 0x84057789, 0x85868788,
      0x846596A0, 0x8465A6A0, 0x8465B6A0, 0x8465C6A0, 0x8465D6A0, 0x8465E6A0, 0x8465F6A0] : List (BitVec 32)).map (decode Config.opNop) =
    ([
      .addI1 3 5 1696, .naddI1 3 5 1696, .andI1 3 5 1696, .candI1 3 5 1696, .orI1 3 5 1696, .corI1 3 5 1696,
      .xorI1 3 5 1696, .setI1 0 5 1929, .eqI1 12 6 1928, .neI1 3 5 1696, .ltI1 3 5 1696, .geI1 3 5 1696, .ltuI1 3 5 1696,
      .geuI1 3 5 1696, .minI1 3 5 1696, .maxI1 3 5 1696] : List Instr).map .ok := by decide +kernel

theorem test_decode_alui2 :
    ([
      0x886506A0, 0x886516A0, 0x886526A0, 0x886536A0, 0x886546A0, 0x886556A0, 0x886566A0, 0x88057001, 0x886586A0,
      0x886596A0, 0x8865A6A0, 0x8865B6A0, 0x8865C6A0, 0x8865D6A0, 0x8865E6A0, 0x8865F6A0] : List (BitVec 32)).map (decode Config.opNop) =
    ([
      .addI2 3 5 1696, .naddI2 3 5 1696, .andI2 3 5 1696, .candI2 3 5 1696, .orI2 3 5 1696, .corI2 3 5 1696,
      .xorI2 3 5 1696, .setI2 0 5 1, .eqI2 3 5 1696, .neI2 3 5 1696, .ltI2 3 5 1696, .geI2 3 5 1696, .ltuI2 3 5 1696,
      .geuI2 3 5 1696, .minI2 3 5 1696, .maxI2 3 5 1696] : List Instr).map .ok := by decide +kernel

theorem test_decode_alui3 :
    ([
      0x8C650FFF, 0x8C6516A0, 0x8C6526A0, 0x8C6536A0, 0x8C6546A0, 0x8C6556A0, 0x8C6566A0, 0x8C057EF0, 0x8C6586A0,
      0x8C6596A0, 0x8C65A6A0, 0x8C65B6A0, 0x8C65C6A0, 0x8C65D6A0, 0x8C65E6A0, 0x8C65F6A0] : List (BitVec 32)).map (decode Config.opNop) =
    ([
      .addI3 3 5 4095, .naddI3 3 5 1696, .andI3 3 5 1696, .candI3 3 5 1696, .orI3 3 5 1696, .corI3 3 5 1696,
      .xorI3 3 5 1696, .setI3 0 5 3824, .eqI3 3 5 1696, .neI3 3 5 1696, .ltI3 3 5 1696, .geI3 3 5 1696, .ltuI3 3 5 1696,
      .geuI3 3 5 1696, .minI3 3 5 1696, .maxI3 3 5 1696] : List Instr).map .ok := by decide +kernel

theorem test_decode_ret :
    ([
      0x93DE0020, 0x906516A0, 0x906526A0, 0x906536A0, 0x906546A0, 0x906556A0, 0x906566A0, 0x90007001, 0x906586A0,
      0x906596A0, 0x9020A005, 0x9065B6A0, 0x9065C6A0, 0x9065D6A0, 0x9065E6A0, 0x9065F6A0] : List (BitVec 32)).map (decode Config.opNop) =
    ([
      .retAdd 30 30 32, .retNadd 3 5 1696, .retAnd 3 5 1696, .retCand 3 5 1696, .retOr 3 5 1696, .retCor 3 5 1696,
      .retXor 3 5 1696, .retSet 0 0 1, .retEq 3 5 1696, .retNe 3 5 1696, .retLt 1 0 5, .retGe 3 5 1696, .retLtu 3 5 1696,
      .retGeu 3 5 1696, .retMin 3 5 1696, .retMax 3 5 1696] : List Instr).map .ok := by decide +kernel

theorem test_decode_shift :
    ([
      0x94250210, 0x94251210, 0x94252210, 0x94253008, 0x94258FFD, 0x9425CFFD, 0x9425DFFD, 0x9425E007, 0x9425F007] : List (BitVec 32)).map (decode Config.opNop) =
    ([
      .shlr 1 5 8 16, .shlr1 1 5 8 16, .salr 1 5 8 16, .rorI 1 5 8, .mulI 1 5 4093, .divI 1 5 4093, .modI 1 5 4093,
      .divuI 1 5 7, .moduI 1 5 7] : List Instr).map .ok := by decide +kernel

theorem test_decode_alu :
    ([
      0xA0220005, 0xA0221005, 0xA0222005, 0xA0223005, 0xA0224005, 0xA0225005, 0xA0226005, 0xA0227005, 0xA0228005,
      0xA0229005, 0xA022A005, 0xA022B005, 0xA022C005, 0xA022D005, 0xA022E005, 0xA022F005, 0xA0220405, 0xA0221405,
      0xA0222405, 0xA0223405, 0xA0228405, 0xA022C405, 0xA022D405, 0xA022E405, 0xA022F405, 0xA0433804, 0xA0A54C05] : List (BitVec 32)).map (decode Config.opNop) =
    ([
      .add 1 2 5, .nadd 1 2 5, .and 1 2 5, .cand 1 2 5, .or 1 2 5, .cor 1 2 5, .xor 1 2 5, .xnor 1 2 5, .eq 1 2 5,
      .ne 1 2 5, .lt 1 2 5, .ge 1 2 5, .ltu 1 2 5, .geu 1 2 5, .min 1 2 5, .max 1 2 5, .shl 1 2 5, .shr 1 2 5, .sar 1 2 5,
      .ror 1 2 5, .mul 1 2 5, .div 1 2 5, .mod 1 2 5, .divu 1 2 5, .modu 1 2 5, .adds 2 3 3 4, .nadds 5 5 4 5] : List Instr).map .ok := by decide +kernel

theorem test_decode_alu3 :
    ([
      0xA4220065, 0xA4221065, 0xA4222065, 0xA4223065, 0xA4224065, 0xA4225065, 0xA4226065, 0xA4227065, 0xA4E30487,
      0xA4E31487, 0xA4E32487, 0xA4E33487, 0xA4E34487, 0xA4E35487, 0xA4E36487, 0xA4E37487, 0xA4E38487, 0xA4E39487,
      0xA4E3A487, 0xA4E3B487, 0xA4E3C487, 0xA4E3D487, 0xA4E3E487, 0xA4E3F487, 0xA4220865, 0xA4221865, 0xA4222865,
      0xA4224865, 0xA4225865] : List (BitVec 32)).map (decode Config.opNop) =
    ([
      .add3 1 2 3 5, .nadd3 1 2 3 5, .and3 1 2 3 5, .cand3 1 2 3 5, .or3 1 2 3 5, .cor3 1 2 3 5, .xor3 1 2 3 5,
      .xnor3 1 2 3 5, .andeq 7 3 4 7, .andne 7 3 4 7, .andlt 7 3 4 7, .andge 7 3 4 7, .andltu 7 3 4 7, .andgeu 7 3 4 7,
      .minu3 7 3 4 7, .maxu3 7 3 4 7, .oreq 7 3 4 7, .orne 7 3 4 7, .orlt 7 3 4 7, .orge 7 3 4 7, .orltu 7 3 4 7,
      .orgeu 7 3 4 7, .min3 7 3 4 7, .max3 7 3 4 7, .sel 1 2 3 5, .seln 1 2 3 5, .selp 1 2 3 5, .madd 1 2 3 5,
      .nmadd 1 2 3 5] : List Instr).map .ok := by decide +kernel

theorem test_decode_fpu1 :
    ([
      0xA8200005, 0xA8200405, 0xA8200805, 0xA8200C05, 0xA8201005, 0xA8201405, 0xA8202005, 0xA8202405, 0xA8202805,
      0xA8202C05, 0xA8203005, 0xA8203405, 0xA8203805, 0xA8203C05] : List (BitVec 32)).map (decode Config.opNop) =
    ([
      .absS 1 5, .absD 1 5, .negS 1 5, .negD 1 5, .sqrtS 1 5, .sqrtD 1 5, .cvtSD 1 5, .cvtDS 1 5, .cvtSI 1 5, .cvtDI 1 5,
      .cvtIS 1 5, .cvtID 1 5, .rintS 1 5, .rintD 1 5] : List Instr).map .ok := by decide +kernel

theorem test_decode_fpu2 :
    ([
      0xAC220005, 0xAC220405, 0xAC220805, 0xAC220C05, 0xAC221005, 0xAC221405, 0xAC221805, 0xAC221C05, 0xAC222005,
      0xAC222405, 0xAC222805, 0xAC222C05, 0xAC224005, 0xAC224405, 0xAC224805, 0xAC224C05, 0xAC225005, 0xAC225405,
      0xAC225805, 0xAC225C05, 0xAC226005, 0xAC226405, 0xAC226805, 0xAC226C05] : List (BitVec 32)).map (decode Config.opNop) =
    ([
      .eqS 1 2 5, .eqD 1 2 5, .neS 1 2 5, .neD 1 2 5, .ltS 1 2 5, .ltD 1 2 5, .geS 1 2 5, .geD 1 2 5, .infS 1 2 5,
      .infD 1 2 5, .nanS 1 2 5, .nanD 1 2 5, .addS 1 2 5, .addD 1 2 5, .naddS 1 2 5, .naddD 1 2 5, .mulS 1 2 5, .mulD 1 2 5,
      .divS 1 2 5, .divD 1 2 5, .minS 1 2 5, .minD 1 2 5, .maxS 1 2 5, .maxD 1 2 5] : List Instr).map .ok := by decide +kernel

theorem test_decode_fpu3 :
    ([
      0xB0220065, 0xB0220465, 0xB0220865, 0xB0220C65, 0xB0221065, 0xB0221465, 0xB0221865, 0xB0221C65, 0xB0222065,
      0xB0222465, 0xB0222865, 0xB0222C65, 0xB0223065, 0xB0223465, 0xB0223865, 0xB0223C65, 0xB0224065, 0xB0224465,
      0xB0224865, 0xB0224C65, 0xB0225065, 0xB0225465, 0xB0225865, 0xB0225C65, 0xB0226065, 0xB0226465, 0xB0226865, 0xB0226C65] : List (BitVec 32)).map (decode Config.opNop) =
    ([
      .andeqS 1 2 3 5, .andeqD 1 2 3 5, .andneS 1 2 3 5, .andneD 1 2 3 5, .andltS 1 2 3 5, .andltD 1 2 3 5, .andgeS 1 2 3 5,
      .andgeD 1 2 3 5, .oreqS 1 2 3 5, .oreqD 1 2 3 5, .orneS 1 2 3 5, .orneD 1 2 3 5, .orltS 1 2 3 5, .orltD 1 2 3 5,
      .orgeS 1 2 3 5, .orgeD 1 2 3 5, .add3S 1 2 3 5, .add3D 1 2 3 5, .nadd3S 1 2 3 5, .nadd3D 1 2 3 5, .maddS 1 2 3 5,
      .maddD 1 2 3 5, .nmaddS 1 2 3 5, .nmaddD 1 2 3 5, .min3S 1 2 3 5, .min3D 1 2 3 5, .max3S 1 2 3 5, .max3D 1 2 3 5] : List Instr).map .ok := by decide +kernel

theorem test_decode_sys :
    ([
      0xF0000123, 0xF0001005, 0xF0002001] : List (BitVec 32)).map (decode Config.opNop) =
    ([
      .scall 291, .dcall 5, .sret 1] : List Instr).map .ok := by decide +kernel

theorem test_decode_mov :
    ([
      0xF5000005, 0xF5000401, 0xF4801401, 0xF6402405] : List (BitVec 32)).map (decode Config.opNop) =
    ([
      .movrc 8 5, .movec 8 1, .mover 4 1, .movre 18 5] : List Instr).map .ok := by decide +kernel

/-! ### Encoding: one word for every format -/

theorem test_encode :
    ([.nop 0x123456, .j 3, .beq 1 2 4, .beqi 1 5 (-3), .addI 3 5 125, .shlr 1 5 8 16, .ldX 4 6 3 10, .orge 7 3 4 7,
      .maddS 1 2 3 5, .mover 4 1] : List Instr).map (encode Config.opNop) =
    [0x00123456, 0x08000003, 0x40220004, 0x2025FFFD, 0x8065007D, 0x94250210, 0x68867C0A, 0xA4E3B487, 0xB0225065, 0xF4801401] := by
  decide +kernel

/-- With another `OP_NOP` its words are NOPs, and the all-zero word is refused (R97, R120). -/
theorem test_other_nop :
    decode nop63 0xFC123456 = .ok (.nop 0x123456) ∧ decode nop63 0 = .error (.undefinedOpcode 0) ∧
      decode nop63 0x8065007D = .ok (.addI 3 5 125) ∧ encode nop63 (.nop 0x123456) = 0xFC123456 := by decide +kernel

/-- Undefined codes are refused, at the first and the last undefined value of each field (R120, R121). -/
theorem test_undefined_opcodes :
    ([0x04000000, 0x70000000, 0x98000000, 0xB4000000, 0xF8000000, 0xFC000000] : List (BitVec 32)).map (decode Config.opNop) =
    ([1, 28, 38, 45, 62, 63] : List Nat).map fun n => .error (.undefinedOpcode n) := by decide +kernel
theorem test_undefined_functions :
    ([0x60008000, 0x6000F000, 0x64004000, 0x68008000, 0x6C00F000, 0x94004000, 0x9400B000, 0xA0004400, 0xA000B400, 0xA4008000,
      0xA4003800, 0xA4006800, 0xA4000C00, 0xF0003000, 0xF400F000, 0xF4000800, 0xF4003400] : List (BitVec 32)).map (decode Config.opNop) =
    ([(24, 8, 0), (24, 15, 0), (25, 4, 0), (26, 8, 0), (27, 15, 0), (37, 4, 0), (37, 11, 0), (40, 4, 1), (40, 11, 1), (41, 8, 0),
      (41, 3, 2), (41, 6, 2), (41, 0, 3), (60, 3, 0), (61, 15, 0), (61, 0, 2), (61, 3, 1)] : List (Nat × Nat × Nat)).map
      fun p => .error (.undefinedFunction p.1 p.2.1 p.2.2) := by decide +kernel
theorem test_undefined_fp_functions :
    ([0xA8001800, 0xA8004400, 0xA800F800, 0xAC003000, 0xAC007400, 0xB0007000, 0xB000FC00] : List (BitVec 32)).map (decode Config.opNop) =
    ([(42, 3, 0), (42, 8, 1), (42, 31, 0), (43, 6, 0), (43, 14, 1), (44, 14, 0), (44, 31, 1)] : List (Nat × Nat × Nat)).map
      fun p => .error (.undefinedFunction p.1 p.2.1 p.2.2) := by decide +kernel
/-- An instruction's bytes, least significant first, and a table word with its extension words (R62, R63). -/
theorem test_bytes :
    decodeBytes Config.opNop [0x7D, 0x00, 0x65, 0x80, 0xAA] = .ok (.addI 3 5 125, [0xAA]) ∧ decodeTableWord 32 0x846506A0 = some (.addI1 3 5 0x6A0) ∧
      decodeBytes Config.opNop [0x7D, 0x00, 0x65] = .error .truncated := by decide +kernel

/-! ### Vectors of spec/95_test_vectors.md, one step each -/

/-- CF1, CF4, CF6, CF7, CF8, CF9, CF10, CF11, CF13. -/
theorem test_control_1 : [
    obeys (machine 0x1000 [0x08000003] [] [(0, 0x80000000)] [] []) [.pc 0x100C],
    obeys (machine 0x1000 [0x0FFFFFFE] [] [(0, 0x80000000)] [] []) [.general 31 0x1004, .pc 0xFF8],
    obeys (machine 0x2000 [0x40210004] [(1, 0x63)] [(0, 0x80000000)] [] []) [.pc 0x2010],
    obeys (machine 0x2000 [0x44220004] [(1, 7), (2, 7)] [(0, 0x80000000)] [] []) [.pc 0x2004],
    obeys (machine 0x2000 [0x48220004] [(1, 0x8000000000000000), (2, 0x7FFFFFFFFFFFFFFF)] [(0, 0x80000000)] [] []) [.pc
      0x2010],
    obeys (machine 0x2000 [0x50220004] [(1, 0x8000000000000000), (2, 0x7FFFFFFFFFFFFFFF)] [(0, 0x80000000)] [] []) [.pc
      0x2004],
    obeys (machine 0x2000 [0x4C220004] [(1, 7), (2, 7)] [(0, 0x80000000)] [] []) [.pc 0x2010],
    obeys (machine 0x2000 [0x54220004] [(1, 0), (2, 0xFFFFFFFFFFFFFFFF)] [(0, 0x80000000)] [] []) [.pc 0x2004],
    obeys (machine 0x2000 [0x203FFFFD] [(1, 0x1F)] [(0, 0x80000000)] [] []) [.pc 0x1FF4]].all id = true := by decide +kernel
/-- CF15, CF16, CF18, CF19, CF20, CF25, CF27, CF32. -/
theorem test_control_2 : [
    obeys (machine 0x2000 [0x2820FFFD] [(1, 0xFFFFFFFFFFFFFFFF)] [(0, 0x80000000)] [] []) [.pc 0x1FF4],
    obeys (machine 0x2000 [0x303FFFFD] [(1, 0xFFFFFFFFFFFFFFFF)] [(0, 0x80000000)] [] []) [.pc 0x2004],
    obeys (machine 0x2000 [0x3420FFFD] [(1, 0)] [(0, 0x80000000)] [] []) [.pc 0x1FF4],
    obeys (machine 0x2000 [0x2C21FFFD] [(1, 0)] [(0, 0x80000000)] [] []) [.pc 0x2004],
    obeys (machine 0x3014 [0x5862FFFB] [(2, 0x62), (3, 0x64)] [(0, 0x80000000)] [] []) [.general 2 0x63, .pc 0x3000],
    obeys (machine 0x3014 [0x5CA4FFFB] [(4, 2), (5, 1)] [(0, 0x80000000)] [] []) [.general 4 1, .pc 0x3018],
    obeys (machine 0x4040 [0x3BE00000] [(31, 0x1004)] [(0, 0x80000000)] [] []) [.pc 0x1004],
    obeys (machine 0x4000 [0x3CBF0000] [(5, 0x8000)] [(0, 0x80000000)] [] []) [.general 31 0x4004, .pc 0x8000]].all id = true := by decide +kernel
/-- LS1, LS2, LS4, LS5, LS7, LS8, LS17, LS18, LS20. -/
theorem test_memory_1 : [
    obeys (machine 0x100 [0x608A0028] [(4, 0x1000)] [(0, 0x80000000)] [] []) [.general 10 0x88, .pc 0x104],
    obeys (machine 0x100 [0x608A1028] [(4, 0x1000)] [(0, 0x80000000)] [] []) [.general 10 0x8788, .pc 0x104],
    obeys (machine 0x100 [0x608A3028] [(4, 0x1000)] [(0, 0x80000000)] [] []) [.general 10 0x8182838485868788, .pc 0x104],
    obeys (machine 0x100 [0x608A4028] [(4, 0x1000)] [(0, 0x80000000)] [] []) [.general 10 0xFFFFFFFFFFFFFF88, .pc 0x104],
    obeys (machine 0x100 [0x608A6028] [(4, 0x1000)] [(0, 0x80000000)] [] []) [.general 10 0xFFFFFFFF85868788, .pc 0x104],
    obeys (machine 0x100 [0x608A7028] [(4, 0x1000)] [(0, 0x80000000)] [] []) [.general 10 0x8182838485868788, .pc 0x104],
    obeys (machine 0x100 [0x64940FF8] [(4, 0x1008), (20, 0x1122334455667788)] [(0, 0x80000000)] [] [(0x1000, 0), (0x1001, 0),
      (0x1002, 0), (0x1003, 0), (0x1004, 0), (0x1005, 0), (0x1006, 0), (0x1007, 0)]) [.byte 0x1000 0x88, .pc 0x104],
    obeys (machine 0x100 [0x64941FF8] [(4, 0x1008), (20, 0x1122334455667788)] [(0, 0x80000000)] [] [(0x1000, 0), (0x1001, 0),
      (0x1002, 0), (0x1003, 0), (0x1004, 0), (0x1005, 0), (0x1006, 0), (0x1007, 0)]) [.byte 0x1000 0x88, .byte 0x1001 0x77,
      .pc 0x104],
    obeys (machine 0x100 [0x64943FF8] [(4, 0x1008), (20, 0x1122334455667788)] [(0, 0x80000000)] [] [(0x1000, 0), (0x1001, 0),
      (0x1002, 0), (0x1003, 0), (0x1004, 0), (0x1005, 0), (0x1006, 0), (0x1007, 0)]) [.byte 0x1000 0x88, .byte 0x1001 0x77,
      .byte 0x1002 0x66, .byte 0x1003 0x55, .byte 0x1004 0x44, .byte 0x1005 0x33, .byte 0x1006 0x22, .byte 0x1007 0x11, .pc
      0x104]].all id = true := by decide +kernel
/-- LS24, LS25, LS27, LS28, LS30, LS36, LS38. -/
theorem test_memory_2 : [
    obeys (machine 0x100 [0x68861C0A] [(4, 0x1000), (6, 5)] [(0, 0x80000000)] [] []) [.general 10 0x8788, .pc 0x104],
    obeys (machine 0x100 [0x68862C0A] [(4, 0x1000), (6, 5)] [(0, 0x80000000)] [] []) [.general 10 0x85868788, .pc 0x104],
    obeys (machine 0x100 [0x68864C0A] [(4, 0x1000), (6, 5)] [(0, 0x80000000)] [] []) [.general 10 0xFFFFFFFFFFFFFF88, .pc
      0x104],
    obeys (machine 0x100 [0x68865C0A] [(4, 0x1000), (6, 5)] [(0, 0x80000000)] [] []) [.general 10 0xFFFFFFFFFFFF8788, .pc
      0x104],
    obeys (machine 0x100 [0x68867C0A] [(4, 0x1000), (6, 5)] [(0, 0x80000000)] [] []) [.general 10 0x8182838485868788, .pc
      0x104],
    obeys (machine 0x100 [0x6C863280] [(4, 0x1000), (6, 0x10), (20, 0x1122334455667788)] [(0, 0x80000000)] [] []) [.byte
      0x1010 0x88, .byte 0x1011 0x77, .byte 0x1012 0x66, .byte 0x1013 0x55, .byte 0x1014 0x44, .byte 0x1015 0x33, .byte 0x1016
      0x22, .byte 0x1017 0x11, .pc 0x104],
    obeys (machine 0x100 [0x6C860E80] [(4, 0x1000), (6, 2), (20, 0x1122334455667788)] [(0, 0x80000000)] [] []) [.byte 0x1010
      0x88, .pc 0x104]].all id = true := by decide +kernel
/-- IA1, IA3, IA5, IA7, IA9, IA11, IA13, IA15. -/
theorem test_alu : [
    obeys (machine 0x1000 [0xA0220005] [(1, 0xC), (2, 0xA)] [(0, 0x80000000)] [] []) [.general 5 0x16, .pc 0x1004],
    obeys (machine 0x1000 [0xA0222005] [(1, 0xC), (2, 0xA)] [(0, 0x80000000)] [] []) [.general 5 8, .pc 0x1004],
    obeys (machine 0x1000 [0xA0224005] [(1, 0xC), (2, 0xA)] [(0, 0x80000000)] [] []) [.general 5 0xE, .pc 0x1004],
    obeys (machine 0x1000 [0xA0226005] [(1, 0xC), (2, 0xA)] [(0, 0x80000000)] [] []) [.general 5 6, .pc 0x1004],
    obeys (machine 0x1000 [0xA0228005] [(1, 0xC), (2, 0xA)] [(0, 0x80000000)] [] []) [.general 5 0, .pc 0x1004],
    obeys (machine 0x1000 [0xA022A005] [(1, 0xC), (2, 0xA)] [(0, 0x80000000)] [] []) [.general 5 0, .pc 0x1004],
    obeys (machine 0x1000 [0xA022C005] [(1, 0xC), (2, 0xA)] [(0, 0x80000000)] [] []) [.general 5 0, .pc 0x1004],
    obeys (machine 0x1000 [0xA022E005] [(1, 0xC), (2, 0xA)] [(0, 0x80000000)] [] []) [.general 5 0xA, .pc 0x1004]].all id = true := by decide +kernel
/-- II1, II3, II6, II9, II11, II14. -/
theorem test_alui : [
    obeys (machine 0x1000 [0x8065007D] [(3, 0xC)] [(0, 0x80000000)] [] []) [.general 5 0x89, .pc 0x1004],
    obeys (machine 0x1000 [0x8065207D] [(3, 0xC)] [(0, 0x80000000)] [] []) [.general 5 0xC, .pc 0x1004],
    obeys (machine 0x1000 [0x8065507D] [(3, 0xC)] [(0, 0x80000000)] [] []) [.general 5 0xFFFFFFFFFFFFFFFF, .pc 0x1004],
    obeys (machine 0x1000 [0x8065807D] [(3, 0xC)] [(0, 0x80000000)] [] []) [.general 5 0, .pc 0x1004],
    obeys (machine 0x1000 [0x8065A07D] [(3, 0xC)] [(0, 0x80000000)] [] []) [.general 5 1, .pc 0x1004],
    obeys (machine 0x1000 [0x8065D07D] [(3, 0xC)] [(0, 0x80000000)] [] []) [.general 5 0, .pc 0x1004]].all id = true := by decide +kernel
/-- IL1, IL6, IL9, IL11, IL16. -/
theorem test_long_immediates : [
    obeys (machine 0x1000 [0x846506A0, 0x00000018] [(3, 0xC)] [(0, 0x80000000)] [] []) [.general 5 0x186AC, .pc 0x1004],
    obeys (machine 0x1000 [0x88057001, 0x02000000] [] [(0, 0x80000000)] [] []) [.general 5 0x8000000000000001, .pc 0x1004],
    obeys (machine 0x1000 [0x8C057EF0, 0x0048D159, 0x0389ABCD] [] [(0, 0x80000000)] [] []) [.general 5 0x123456789ABCDEF0, .pc
      0x1004],
    obeys (machine 0x1000 [0x84057005, 0x80E70001] [(7, 0)] [(0, 0x80000000)] [] []) [.exception 16 0x1000, .exception 18 0,
      .pc 0x80000081],
    obeys (machine 0x1000 [0x03FFFFFF] [] [(0, 0x80000000)] [] []) [.pc 0x1004]].all id = true := by decide +kernel
/-- IR1. -/
theorem test_ret : [
    obeys (machine 0x5000 [0x90007001] [(31, 0x4004)] [(0, 0x80000000)] [] []) [.general 0 1, .pc 0x4004]].all id = true := by decide +kernel
/-- IS1, IS2, IS3, IS10, IS14, IS19. -/
theorem test_shift : [
    obeys (machine 0x1000 [0x94250210] [(1, 0x123456789ABCDEF)] [(0, 0x80000000)] [] []) [.general 5 0x23456789ABCD, .pc
      0x1004],
    obeys (machine 0x1000 [0x94251210] [(1, 0x123456789ABCDEF)] [(0, 0x80000000)] [] []) [.general 5 0x23456789ABCD, .pc
      0x1004],
    obeys (machine 0x1000 [0x94252210] [(1, 0x1A3456789ABCDEF)] [(0, 0x80000000)] [] []) [.general 5 0xFFFFA3456789ABCD, .pc
      0x1004],
    obeys (machine 0x1000 [0x94253008] [(1, 0x123456789ABCDEF)] [(0, 0x80000000)] [] []) [.general 5 0xEF0123456789ABCD, .pc
      0x1004],
    obeys (machine 0x1000 [0x942522F8] [(1, 0x123456789ABCDEF)] [(0, 0x80000000)] [] []) [.general 5 0x1A, .pc 0x1004],
    obeys (machine 0x1000 [0x94254000] [(1, 1)] [(0, 0x80000000)] [] []) [.exception 16 0x1000, .exception 18 0, .pc
      0x80000081]].all id = true := by decide +kernel
/-- IM1, IM4, IM6, IM8, IM10. -/
theorem test_division : [
    obeys (machine 0x1000 [0x94258FFD] [(1, 0xFFFFFFFFFFFFFFEC)] [(0, 0x80000000)] [] []) [.general 5 0x3C, .pc 0x1004],
    obeys (machine 0x1000 [0x9425CFFD] [(1, 0xFFFFFFFFFFFFFFEC)] [(0, 0x80000000)] [] []) [.general 5 6, .pc 0x1004],
    obeys (machine 0x1000 [0x9425DFFD] [(1, 0xFFFFFFFFFFFFFFEC)] [(0, 0x80000000)] [] []) [.general 5 0xFFFFFFFFFFFFFFFE, .pc
      0x1004],
    obeys (machine 0x1000 [0x9425E007] [(1, 0xFFFFFFFFFFFFFFEC)] [(0, 0x80000000)] [] []) [.general 5 0x249249249249248F, .pc
      0x1004],
    obeys (machine 0x1000 [0x9425F007] [(1, 0xFFFFFFFFFFFFFFEC)] [(0, 0x80000000)] [] []) [.general 5 3, .pc 0x1004]].all id = true := by decide +kernel
/-- IX1, IX2, IX3, IX4, IX8, IX11, IX12, IX15, IX16. -/
theorem test_alu_x1_1 : [
    obeys (machine 0x1000 [0xA0220405] [(1, 0x123456789ABCDEF), (2, 0x44)] [(0, 0x80000000)] [] []) [.general 5
      0x123456789ABCDEF0, .pc 0x1004],
    obeys (machine 0x1000 [0xA0221405] [(1, 0x8000000000000000), (2, 4)] [(0, 0x80000000)] [] []) [.general 5
      0x800000000000000, .pc 0x1004],
    obeys (machine 0x1000 [0xA0222405] [(1, 0x8000000000000000), (2, 4)] [(0, 0x80000000)] [] []) [.general 5
      0xF800000000000000, .pc 0x1004],
    obeys (machine 0x1000 [0xA0223405] [(1, 0x123456789ABCDEF), (2, 4)] [(0, 0x80000000)] [] []) [.general 5
      0xF0123456789ABCDE, .pc 0x1004],
    obeys (machine 0x1000 [0xA0228405] [(1, 0xFFFFFFFFFFFFFFFF), (2, 0xFFFFFFFFFFFFFFFF)] [(0, 0x80000000)] [] []) [.general 5
      1, .pc 0x1004],
    obeys (machine 0x1000 [0xA022C405] [(1, 0x14), (2, 0xFFFFFFFFFFFFFFFD)] [(0, 0x80000000)] [] []) [.general 5
      0xFFFFFFFFFFFFFFFA, .pc 0x1004],
    obeys (machine 0x1000 [0xA022D405] [(1, 0x14), (2, 0xFFFFFFFFFFFFFFFD)] [(0, 0x80000000)] [] []) [.general 5 2, .pc
      0x1004],
    obeys (machine 0x1000 [0xA022E405] [(1, 0xFFFFFFFFFFFFFFEC), (2, 7)] [(0, 0x80000000)] [] []) [.general 5
      0x249249249249248F, .pc 0x1004],
    obeys (machine 0x1000 [0xA022F405] [(1, 0xFFFFFFFFFFFFFFEC), (2, 7)] [(0, 0x80000000)] [] []) [.general 5 3, .pc 0x1004]].all id = true := by decide +kernel
/-- IX20, IX21, IX23. -/
theorem test_alu_x1_2 : [
    obeys (machine 0x1000 [0xA0224405] [(1, 1), (2, 1)] [(0, 0x80000000)] [] []) [.exception 16 0x1000, .exception 18 0, .pc
      0x80000081],
    obeys (machine 0x1000 [0xA0433804] [(2, 0x2000), (3, 5)] [(0, 0x80000000)] [] []) [.general 4 0x2028, .pc 0x1004],
    obeys (machine 0x1000 [0xA0A54C05] [(5, 7)] [(0, 0x80000000)] [] []) [.general 5 0x69, .pc 0x1004]].all id = true := by decide +kernel
/-- T1, T3, T5, T7, T10, T13, T15, T17, T19. -/
theorem test_alu3_1 : [
    obeys (machine 0x1000 [0xA4220065] [(1, 0xC), (2, 0xA), (3, 7)] [(0, 0x80000000)] [] []) [.general 5 0x1D, .pc 0x1004],
    obeys (machine 0x1000 [0xA4222065] [(1, 0xC), (2, 0xA), (3, 7)] [(0, 0x80000000)] [] []) [.general 5 0, .pc 0x1004],
    obeys (machine 0x1000 [0xA4224065] [(1, 0xC), (2, 0xA), (3, 7)] [(0, 0x80000000)] [] []) [.general 5 0xF, .pc 0x1004],
    obeys (machine 0x1000 [0xA4226065] [(1, 0xC), (2, 0xA), (3, 7)] [(0, 0x80000000)] [] []) [.general 5 1, .pc 0x1004],
    obeys (machine 0x1000 [0xA4228065] [(1, 1), (2, 1), (3, 1)] [(0, 0x80000000)] [] []) [.exception 16 0x1000, .exception 18
      0, .pc 0x80000081],
    obeys (machine 0x1000 [0xA4E32487] [(7, 1), (3, 5), (4, 5)] [(0, 0x80000000)] [] []) [.general 7 0, .pc 0x1004],
    obeys (machine 0x1000 [0xA4E34487] [(7, 1), (3, 5), (4, 5)] [(0, 0x80000000)] [] []) [.general 7 0, .pc 0x1004],
    obeys (machine 0x1000 [0xA4E38487] [(7, 1), (3, 5), (4, 5)] [(0, 0x80000000)] [] []) [.general 7 1, .pc 0x1004],
    obeys (machine 0x1000 [0xA4E3A487] [(7, 1), (3, 5), (4, 5)] [(0, 0x80000000)] [] []) [.general 7 1, .pc 0x1004]].all id = true := by decide +kernel
/-- T21, T38, T40, T44, T50. -/
theorem test_alu3_2 : [
    obeys (machine 0x1000 [0xA4E3C487] [(7, 1), (3, 5), (4, 5)] [(0, 0x80000000)] [] []) [.general 7 1, .pc 0x1004],
    obeys (machine 0x1000 [0xA4E37487] [(7, 3), (3, 0xFFFFFFFFFFFFFFFF), (4, 1)] [(0, 0x80000000)] [] []) [.general 7
      0xFFFFFFFFFFFFFFFF, .pc 0x1004],
    obeys (machine 0x1000 [0xA4E3F487] [(7, 3), (3, 0xFFFFFFFFFFFFFFFF), (4, 1)] [(0, 0x80000000)] [] []) [.general 7 3, .pc
      0x1004],
    obeys (machine 0x1000 [0xA4221865] [(1, 0), (2, 0x22), (3, 0x33)] [(0, 0x80000000)] [] []) [.general 5 0x33, .pc 0x1004],
    obeys (machine 0x1000 [0xA4230845] [(1, 0), (2, 0x22), (3, 0x33)] [(0, 0x80000000)] [] []) [.general 5 0x22, .pc 0x1004]].all id = true := by decide +kernel
/-- F1, F2, F4, F7, F12, F16, F22, F26. -/
theorem test_fpu1 : [
    obeys (machine 0x1000 [0xA8200005] [(1, 0xFFFFFFFFC0100000)] [(0, 0x80000000)] [] []) [.general 5 0x40100000, .pc 0x1004],
    obeys (machine 0x1000 [0xA8200405] [(1, 0xC002000000000000)] [(0, 0x80000000)] [] []) [.general 5 0x4002000000000000, .pc
      0x1004],
    obeys (machine 0x1000 [0xA8200C05] [(1, 0x4002000000000000)] [(0, 0x80000000)] [] []) [.general 5 0xC002000000000000, .pc
      0x1004],
    obeys (machine 0x1000 [0xA8201405] [(1, 0x4002000000000000)] [(0, 0x80000000)] [] []) [.general 5 0x3FF8000000000000, .pc
      0x1004],
    obeys (machine 0x1000 [0xA8202405] [(1, 0xFFFFFFFF40100000)] [(0, 0x80000000)] [] []) [.general 5 0x4002000000000000, .pc
      0x1004],
    obeys (machine 0x1000 [0xA8202C05] [(1, 0xFFFFFFFFFFFFFFF9)] [(0, 0x80000000)] [] []) [.general 5 0xC01C000000000000, .pc
      0x1004],
    obeys (machine 0x1000 [0xA8203405] [(1, 0xC01C000000000000)] [(0, 0x80000000)] [] []) [.general 5 0xFFFFFFFFFFFFFFF9, .pc
      0x1004],
    obeys (machine 0x1000 [0xA8203C05] [(1, 0x4004000000000000)] [(0, 0x80000000)] [] []) [.general 5 0x4000000000000000, .pc
      0x1004]].all id = true := by decide +kernel
/-- G1, G3, G5, G7, G10, G12, G14, G16, G19. -/
theorem test_fpu2_1 : [
    obeys (machine 0x1000 [0xAC220005] [(1, 0x3FC00000), (2, 0x40000000)] [(0, 0x80000000)] [] []) [.general 5 0, .pc 0x1004],
    obeys (machine 0x1000 [0xAC220805] [(1, 0x3FC00000), (2, 0x40000000)] [(0, 0x80000000)] [] []) [.general 5 1, .pc 0x1004],
    obeys (machine 0x1000 [0xAC221005] [(1, 0x3FC00000), (2, 0x40000000)] [(0, 0x80000000)] [] []) [.general 5 1, .pc 0x1004],
    obeys (machine 0x1000 [0xAC221805] [(1, 0x3FC00000), (2, 0x40000000)] [(0, 0x80000000)] [] []) [.general 5 0, .pc 0x1004],
    obeys (machine 0x1000 [0xAC222405] [(1, 0x3FF8000000000000), (2, 0x4000000000000000)] [(0, 0x80000000)] [] []) [.general 5
      0, .pc 0x1004],
    obeys (machine 0x1000 [0xAC222C05] [(1, 0x3FF8000000000000), (2, 0x4000000000000000)] [(0, 0x80000000)] [] []) [.general 5
      0, .pc 0x1004],
    obeys (machine 0x1000 [0xAC224405] [(1, 0x3FF8000000000000), (2, 0x4000000000000000)] [(0, 0x80000000)] [] []) [.general 5
      0x400C000000000000, .pc 0x1004],
    obeys (machine 0x1000 [0xAC224C05] [(1, 0x3FF8000000000000), (2, 0x4000000000000000)] [(0, 0x80000000)] [] []) [.general 5
      0x3FE0000000000000, .pc 0x1004],
    obeys (machine 0x1000 [0xAC225805] [(1, 0x3FC00000), (2, 0x40000000)] [(0, 0x80000000)] [] []) [.general 5 0x3F400000, .pc
      0x1004]].all id = true := by decide +kernel
/-- G21, G23, G45. -/
theorem test_fpu2_2 : [
    obeys (machine 0x1000 [0xAC226005] [(1, 0x3FC00000), (2, 0x40000000)] [(0, 0x80000000)] [] []) [.general 5 0x3FC00000, .pc
      0x1004],
    obeys (machine 0x1000 [0xAC226805] [(1, 0x3FC00000), (2, 0x40000000)] [(0, 0x80000000)] [] []) [.general 5 0x40000000, .pc
      0x1004],
    obeys (machine 0x1000 [0xAC223005] [(1, 0), (2, 0)] [(0, 0x80000000)] [] []) [.exception 16 0x1000, .exception 18 0, .pc
      0x80000081]].all id = true := by decide +kernel
/-- H1, H4, H7, H10, H13, H19, H25, H31, H37. -/
theorem test_fpu3_1 : [
    obeys (machine 0x1000 [0xB0224065] [(1, 0x3FC00000), (2, 0x40000000), (3, 0x40800000)] [(0, 0x80000000)] [] []) [.general
      5 0x40F00000, .pc 0x1004],
    obeys (machine 0x1000 [0xB0224C65] [(1, 0x3FF8000000000000), (2, 0x4000000000000000), (3, 0x4010000000000000)] [(0,
      0x80000000)] [] []) [.general 5 0x4012000000000000, .pc 0x1004],
    obeys (machine 0x1000 [0xB0225865] [(1, 0x3FC00000), (2, 0x40000000), (3, 0x40800000)] [(0, 0x80000000)] [] []) [.general
      5 0x3F800000, .pc 0x1004],
    obeys (machine 0x1000 [0xB0226465] [(1, 0x3FF8000000000000), (2, 0x4000000000000000), (3, 0x4010000000000000)] [(0,
      0x80000000)] [] []) [.general 5 0x3FF8000000000000, .pc 0x1004],
    obeys (machine 0x1000 [0xB0220065] [(1, 1), (2, 0x3FC00000), (3, 0x40000000)] [(0, 0x80000000)] [] []) [.general 5 0, .pc
      0x1004],
    obeys (machine 0x1000 [0xB0220C65] [(1, 1), (2, 0x3FF8000000000000), (3, 0x4000000000000000)] [(0, 0x80000000)] [] [])
      [.general 5 1, .pc 0x1004],
    obeys (machine 0x1000 [0xB0221865] [(1, 1), (2, 0x3FC00000), (3, 0x40000000)] [(0, 0x80000000)] [] []) [.general 5 0, .pc
      0x1004],
    obeys (machine 0x1000 [0xB0222465] [(1, 1), (2, 0x3FF8000000000000), (3, 0x4000000000000000)] [(0, 0x80000000)] [] [])
      [.general 5 1, .pc 0x1004],
    obeys (machine 0x1000 [0xB0223065] [(1, 1), (2, 0x3FC00000), (3, 0x40000000)] [(0, 0x80000000)] [] []) [.general 5 1, .pc
      0x1004]].all id = true := by decide +kernel
/-- H43. -/
theorem test_fpu3_2 : [
    obeys (machine 0x1000 [0xB0223C65] [(1, 1), (2, 0x3FF8000000000000), (3, 0x4000000000000000)] [(0, 0x80000000)] [] [])
      [.general 5 1, .pc 0x1004]].all id = true := by decide +kernel
/-- S1, S2, S4, S6, S8, S12, S14, S16, S18. -/
theorem test_system_1 : [
    obeys (machine 0x1000 [0xF0000123] [] [(0, 0x80000000)] [] []) [.exception 16 0x1000, .exception 18 0x123, .pc 0x80000001],
    obeys (machine 0x1000 [0xF3FF0FFF] [] [(0, 0x80000000)] [] []) [.exception 16 0x1000, .exception 18 0xFFF, .pc 0x80000001],
    obeys (machine 0x80000301 [0xF0000002] [] [(0, 0x80000000), (16, 0x1004), (18, 1)] [] []) [.exception 16 0x80000301,
      .exception 18 2, .pc 0x80000001],
    obeys (machine 0x80000021 [0xF0002001] [] [(0, 0x80000000), (16, 0x1004)] [] []) [.pc 0x1008],
    obeys (machine 0x80000021 [0xF0002FFF] [] [(0, 0x80000000), (16, 0x1004)] [] []) [.pc 0x1000],
    obeys (machine 0x1000 [0xF0003000] [] [(0, 0x80000000), (17, 0x7777)] [] []) [.exception 16 0x1000, .exception 18 0, .pc
      0x80000081],
    obeys (machine 0x1000 [0xF4400005] [] [(0, 0x80000000)] [] []) [.general 5 0, .pc 0x1004],
    obeys (machine 0x1000 [0xF4801401] [(4, 0x2001)] [(0, 0x80000000), (17, 0x7777)] [] []) [.exception 16 0x1000, .exception
      18 1, .pc 0x80000081],
    obeys (machine 0x1000 [0xF6402405] [] [(0, 0x80000000), (17, 0x7777), (18, 4)] [] []) [.exception 16 0x1000, .exception 18
      1, .pc 0x80000081]].all id = true := by decide +kernel
/-- S20, S24, S26. -/
theorem test_system_2 : [
    obeys (machine 0x80000101 [0xF5202405] [] [(0, 0x80000000)] [] []) [.general 5 0, .pc 0x80000105],
    obeys (machine 0x80000101 [0xF4803401] [] [(0, 0x80000000)] [] []) [.exception 16 0x80000101, .exception 18 0, .pc
      0x80000081],
    obeys (machine 0x80000101 [0x81250001] [] [(0, 0x80000000)] [] []) [.exception 5 1, .pc 0x80000105]].all id = true := by decide +kernel
/-- X1, X4, X6, X7, X8. -/
theorem test_exceptions : [
    obeys (machine 0x1000 [0x04000000] [] [(0, 0x80000000), (17, 0x7777)] [] []) [.exception 16 0x1000, .exception 18 0, .pc
      0x80000081],
    obeys (machine 0x80000085 [0xFC000000] [] [(0, 0x80000000), (16, 0x1004), (17, 0x7777), (18, 2)] [] []) [.exception 16
      0x80000085, .exception 18 0, .pc 0x80000081],
    obeys (machine 0x1000 [0x60857000] [(4, 0x2001)] [(0, 0x80000000)] [] []) [.exception 16 0x1000, .exception 17 0x2001,
      .exception 18 2, .pc 0x80000081],
    obeys (machine 0x1000 [0xF0000001] [] [(0, 0xFFFFFFFFFFFFFFC0)] [] []) [.exception 16 0x1000, .exception 18 1, .pc
      0xFFFFFFFFFFFFFFC1],
    obeys (machine 0x1000 [0xF0001001] [] [(0, 0xFFFFFFFFFFFFFFC0)] [] []) [.exception 16 0x1000, .exception 18 1, .pc 1]].all id = true := by decide +kernel

/-! ### What a step does around an instruction -/

/-- An instruction placed for the next step after reset runs there: SET E5 = 1 at EL1 (R500, R248). -/
theorem test_first_instruction_after_reset :
    (match step (State.reset.withFetchWord 32 0x80057001) with
      | .next t => decide (t.readE 5 = 1) && decide (t.pc = 5)
      | _ => false) = true := by decide +kernel
/-- With nothing placed, the first fetch meets a byte that has no value (R501). -/
theorem test_reset_alone :
    (match step State.reset with
      | .fault f => decide (f = .noValue 0)
      | _ => false) = true := by decide +kernel
/-- Source 5 is pending and enabled: its interrupt is taken before the instruction (R466). -/
theorem test_interrupt :
    (match step { machine 0x1000 [0] [] [(0, 0x80000000), (20, 0x20)] [] [] with irqSources := 0x30, irqInputs := [0x30] } with
      | .next t => decide (t.readE 16 = 0x1000) && decide (t.readE 18 = 5) && decide (t.pc = 0x800000C1) && decide (t.readE 19 = 0x30)
      | _ => false) = true := by decide +kernel
/-- A step at a level that does not exist is refused (R26). -/
theorem test_reserved_level :
    (match step { State.reset with pc := 2 } with
      | .refused r => decide (r = .reservedLevel 2)
      | _ => false) = true := by decide +kernel

/-- With another `OP_NOP` a long immediate is read from its NOPs; the vector IL1 with the opcode 63 (R97, R256). -/
theorem test_long_immediate_other_nop :
    obeys { machine 0x1000 [0x846506A0, 0xFC000018] [(3, 0xC)] [] [] [] with nopCode := nop63 } [.general 5 0x186AC, .pc 0x1004] = true ∧
      obeys { machine 0x1000 [0x846506A0, 0x00000018] [(3, 0xC)] [(0, 0x80000000)] [] [] with nopCode := nop63 }
        [.exception 16 0x1000, .exception 18 0, .pc 0x80000081] = true := by decide +kernel
/-- G47, G33, G34: GT.D is LT.D with a and b exchanged, and NAN says that two operands are unordered (R386). -/
theorem test_compare_pseudo_and_unordered :
    decode Config.opNop 0xAC411405 = .ok (.ltD 2 1 5) ∧ [
    obeys (machine 0x1000 [0xAC411405] [(1, 0x4000000000000000), (2, 0x3FF8000000000000)] [] [] []) [.general 5 1, .pc 0x1004],
    obeys (machine 0x1000 [0xAC222805] [(1, 0x7FC00000), (2, 0x3FC00000)] [] [] []) [.general 5 1, .pc 0x1004],
    obeys (machine 0x1000 [0xAC222C05] [(1, 0x3FF8000000000000), (2, 0x7FF8000000000000)] [] [] []) [.general 5 1, .pc 0x1004]].all
      id = true := by decide +kernel
/-- With 32 address bits a store at 0x180000020 reaches the byte 0x80000020, and `access_ok` still gets the whole address (R25; log
entry 6). -/
theorem test_dropped_address_bits :
    (match step { machine 0x1000 [0x64880000] [(4, 0x180000020), (8, 0xAB)] [] [] [] with addrBits := bits32 } with
      | .next t => decide (t.mem.read 0x80000020 = some 0xAB) && decide (t.mem.read 0x180000020 = none) && decide (t.pc = 0x1004)
      | _ => false) = true ∧
    (match step { machine 0x1000 [0x64880000] [(4, 0x180000020), (8, 0xAB)] [(0, 0x80000000)]
        [⟨0, .store, none, 0x100000000, 0xFFFFFFFFFFFFFFFF⟩] [] with addrBits := bits32 } with
      | .next t => decide (t.readE 18 = 5) && decide (t.readE 17 = 0x180000020)
      | _ => false) = true := by decide +kernel
/-- A counter that the platform adds is read as the five are; without it C9 reads 0 (R42, R436). -/
theorem test_added_counter :
    [true, false].map (fun b => match exec (.movrc 9 5) { State.reset with
        c := registers [(9, 7)], counterImpl := Config.counterImpl.set 9 b } with
      | .next t => t.readR 5
      | _ => 99) = [7, 0] := by decide +kernel
/-- RINT.S of 2.25 and of -2.25 in the modes nearest even, nearest away, toward zero, upward and downward (IEEE 754). -/
theorem test_rint_modes :
    ([.nearestEven, .nearestAway, .towardZero, .upward, .downward] : List Config.RoundingMode).map
        (fun rm => ((ieee rm).single.rint 0x40100000, (ieee rm).single.rint 0xC0100000)) =
      [(0x40000000, 0xC0000000), (0x40000000, 0xC0000000), (0x40000000, 0xC0000000), (0x40400000, 0xC0000000), (0x40000000, 0xC0400000)] := by
  decide +kernel
/-- CVTI.S of 2.5, the largest number plus itself, and 1 + -1, in the same modes (IEEE 754). -/
theorem test_rounding_modes :
    ([.nearestEven, .nearestAway, .towardZero, .upward, .downward] : List Config.RoundingMode).map (fun rm =>
        ((ieee rm).single.toInt 0x40200000, (ieee rm).single.add 0x7F7FFFFF 0x7F7FFFFF, (ieee rm).single.add 0x3F800000 0xBF800000)) =
      [(2, 0x7F800000, 0), (3, 0x7F800000, 0), (2, 0x7F7FFFFF, 0), (3, 0x7F800000, 0), (2, 0x7F7FFFFF, 0x80000000)] := by
  decide +kernel

/-! ### Witnesses: a state and operands that meet the hypotheses of a statement -/

/-- A machine at EL0 that stands before a NOP, with R4 = 0x1000, R6 = 5, R7 = -8 and R8 = 0x1001. -/
def user : State := machine 0x1000 [0, 1, 2] [(4, 0x1000), (6, 5), (7, 0xFFFFFFFFFFFFFFF8), (8, 0x1001)] [] [] []
/-- The same at EL1. -/
def supervisor : State := machine 0x1001 [0, 1, 2] [] [(4, 0x1000), (6, 5)] [] []

theorem witness_EncodeThenDecode : Instr.WellFormed (.ldX 31 31 3 31) ∧ Instr.WellFormed (.salr 31 0 63 63) := by
  constructor <;> rfl
theorem witness_DecodedIsWellFormed : ∃ nop w i, decode nop w = .ok i := ⟨Config.opNop, 0x68867C0A, .ldX 4 6 3 10, by decide +kernel⟩
theorem witness_BytesOfAWord : ∃ nop w i, decode nop w = .ok i := ⟨Config.opNop, 0x00000000, .nop 0, by decide +kernel⟩
theorem witness_UndefinedCodesAreRefused :
    (0x04000000 : BitVec 32).extractLsb' 26 6 ≠ Config.opNop.code ∧ (0x00000001 : BitVec 32).extractLsb' 26 6 = Config.opNop.code ∧
      (0x00000001 : BitVec 32).extractLsb' 26 6 ≠ nop63.code ∧ (0xFC000001 : BitVec 32).extractLsb' 26 6 = nop63.code ∧
      ((0x04000000 : BitVec 32).extractLsb' 26 6).toNat = 1 ∧
      ((0x60008000 : BitVec 32).extractLsb' 26 6).toNat = 24 ∧ 8 ≤ ((0x60008000 : BitVec 32).extractLsb' 12 4).toNat ∧
      ((0xF4003400 : BitVec 32).extractLsb' 26 6).toNat = 61 ∧ ((0xF4003400 : BitVec 32).extractLsb' 12 4).toNat = 3 ∧
      ((0xA8001800 : BitVec 32).extractLsb' 26 6).toNat = 42 ∧ ((0xA8001800 : BitVec 32).extractLsb' 11 5).toNat = 3 := by decide
theorem witness_IgnoredFieldsDoNotMatter :
    ([(0x3BE00000, 0x3BFF0000, 14, 0xFFE0FFFF), (0x68867C0A, 0x68867FEA, 26, 0xFFFFFC1F), (0xA0220005, 0xA02203E5, 40, 0xFFFFFC1F),
      (0xAC220005, 0xAC2203E5, 43, 0xFFFFFC1F), (0x6C860280, 0x6C86029F, 27, 0xFFFFFFE0), (0xA8200005, 0xA83F03E5, 42, 0xFFE0FC1F),
      (0xF4801401, 0xF49F17E1, 61, 0xFFE0FC1F), (0xF0002001, 0xF3FF2001, 60, 0xFC00FFFF), (0x94253008, 0x94253FC8, 37, 0xFFFFF03F)] :
      List (BitVec 32 × BitVec 32 × BitVec 6 × BitVec 32)).all (fun p =>
        decide (p.1.extractLsb' 26 6 = p.2.2.1) && decide (p.1 ≠ p.2.1) && decide (p.1 &&& p.2.2.2 = p.2.1 &&& p.2.2.2)) = true := by
  decide +kernel
theorem witness_StepKeepsInvariant : user.Inv ∧ supervisor.Inv ∧ (∃ t, step user = .next t) ∧ ∃ t, step supervisor = .next t := by
  refine ⟨?_, ?_, next_of (by decide +kernel), next_of (by decide +kernel)⟩ <;> · unfold State.Inv; decide +kernel
theorem witness_StepRunsTheDecodedInstruction :
    ReachesFetch user ∧ FetchReady user user.pcByte 0 ∧ decode user.nopCode 0 = .ok (.nop 0) ∧ Instr.WellFormed (.nop 0) := by
  refine ⟨?_, ?_, by decide +kernel, rfl⟩
  · unfold ReachesFetch; decide +kernel
  · unfold FetchReady HoldsAt; decide +kernel
theorem witness_HowAStepBegins :
    user.irqInputs = [] ∧ { user with irqInputs := [5, 6] }.irqInputs = 5 :: [6] ∧ user.el = 0 ∧ supervisor.el ≠ 0 := by decide +kernel
/-- The clauses in their order: the two levels, a refused fetch, an undefined word, a byte without a value. -/
theorem witness_StepWithoutAnInstruction :
    { user with pc := 2 }.el = 2 ∧ { user with pc := 3 }.el = 3 ∧
      (ReachesFetch (machine 0x80000000 [0] [] [] policyK []) ∧
        (machine 0x80000000 [0] [] [] policyK []).accessOk .fetch 0x80000000 4 = false) ∧
      (ReachesFetch (machine 0x1000 [0x04000000] [] [] [] []) ∧ FetchReady (machine 0x1000 [0x04000000] [] [] [] []) 0x1000 0x04000000 ∧
        decode Config.opNop 0x04000000 = .error (.undefinedOpcode 1)) ∧
      (ReachesFetch State.reset ∧ State.reset.accessOk .fetch 0 4 = true ∧ LacksByte State.reset 0 4) := by
  refine ⟨by decide +kernel, by decide +kernel, ⟨?_, by decide +kernel⟩, ⟨?_, ?_, by decide +kernel⟩, ?_, by decide +kernel, 0, by decide, rfl⟩
  · unfold ReachesFetch; decide +kernel
  · unfold ReachesFetch; decide +kernel
  · unfold FetchReady HoldsAt; decide +kernel
  · unfold ReachesFetch; decide +kernel
/-- Source 0 requests at EL0, at the step that begins; source 63 alone requests at EL1. -/
def userRequested : State := { user with irqSources := 1, irqInputs := [1], e := registers [(20, 1)] }
def supervisorRequested : State :=
  { supervisor with irqSources := 0x8000000000000000, e := registers [(19, 0x8000000000000000), (20, 0xFFFFFFFFFFFFFFFF)] }

/-- The word of the sources that request as a step of `s` begins. -/
def requested (s : State) : Word := s.irqSources &&& (s.begun.readE 19 &&& s.irq.enabled (s.begun.readE 20))

/-- The clauses in their order: no pending source, sources 0 and 63 under the default rules, a platform that takes none at EL1. -/
theorem witness_TakingAnInterrupt :
    (∀ s k, (requested s).getLsbD k =
      (s.irqSources.getLsbD k && (s.begun.readE 19).getLsbD k && (s.irq.enabled (s.begun.readE 20)).getLsbD k)) ∧
    (user.el.toNat < 2 ∧ requested user = 0) ∧
    (userRequested.el.toNat < 2 ∧ requested userRequested ≠ 0 ∧ userRequested.el = 0 ∧ userRequested.irqInstance = .standard ∧
      (requested userRequested).getLsbD (userRequested.irq.choose (requested userRequested)) = true ∧
      (requested userRequested).getLsbD 0 = true ∧ ∀ j, j < 0 → (requested userRequested).getLsbD j = false) ∧
    (supervisorRequested.el.toNat < 2 ∧ requested supervisorRequested ≠ 0 ∧ supervisorRequested.irqAtEl1 = true ∧
      supervisorRequested.irqInstance = .standard ∧ (requested supervisorRequested).getLsbD 63 = true ∧
      ∀ j, j < 63 → (requested supervisorRequested).getLsbD j = false) ∧
    { supervisorRequested with irqAtEl1 := false }.el ≠ 0 := by
  refine ⟨fun s k => by simp [requested, Bool.and_assoc], ?_⟩
  decide +kernel
theorem witness_CountersNeverGoDown : ∃ t, step user = .next t := next_of (by decide +kernel)
theorem witness_NoInstructionWritesCounters : ∃ t, exec (.movrc 8 5) user = .next t := ⟨_, rfl⟩
theorem witness_WhatChangesTheLevel :
    (∃ t, exec (.scall 1) user = .next t) ∧ (∃ t, exec (.sret 0) supervisor = .next t) ∧ ∃ t, exec (.nop 0) user = .next t :=
  ⟨⟨_, rfl⟩, ⟨_, rfl⟩, ⟨_, rfl⟩⟩
theorem witness_UserStepsCannotTouchExceptionRegisters : user.el = 0 ∧ ∃ t, step user = .next t :=
  ⟨by decide +kernel, next_of (by decide +kernel)⟩
theorem witness_OnlyTwoMovesReachGeneralRegistersAboveUser :
    supervisor.el ≠ 0 ∧ (∃ t, exec (.jal 1) supervisor = .next t) ∧ ∀ a d, Instr.jal 1 ≠ .movrc a d ∧ Instr.jal 1 ≠ .movre a d :=
  ⟨by decide +kernel, ⟨_, rfl⟩, fun _ _ => ⟨by simp, by simp⟩⟩
theorem witness_OnlyStoresWriteMemory : storesMemory (.addI 4 5 0) = false ∧ ∃ t, exec (.addI 4 5 0) user = .next t := ⟨rfl, _, rfl⟩
/-- Each width at address 0x1028, and one byte at its last byte. -/
theorem witness_LoadsComplete :
    LoadReady user (user.readX 4 + BitVec.signExtend 64 (40 : BitVec 12)) 8 0x8182838485868788 ∧
      LoadReady user (user.readX 4 + BitVec.signExtend 64 (40 : BitVec 12)) 4 0x85868788 ∧
      LoadReady user (user.readX 4 + BitVec.signExtend 64 (40 : BitVec 12)) 2 0x8788 ∧
      LoadReady user (user.readX 4 + BitVec.signExtend 64 (47 : BitVec 12)) 1 0x81 := by
  unfold LoadReady HoldsAt; decide +kernel
/-- Scales 3 and 0. -/
theorem witness_LoadsComplete_indexed :
    LoadReady user (user.readX 4 + user.readX 6 <<< 3) 8 0x8182838485868788 ∧
      LoadReady user (user.readX 4 + user.readX 6 <<< 3) 4 0x85868788 ∧
      LoadReady user (user.readX 4 + user.readX 6 <<< 3) 2 0x8788 ∧ LoadReady user (user.readX 4 + user.readX 9 <<< 0) 1 0 := by
  unfold LoadReady HoldsAt; decide +kernel
/-- At the first double word and at the last one of the address space. -/
theorem witness_StoresComplete :
    StoreReady user (user.readX 9 + BitVec.signExtend 64 (0 : BitVec 12)) 8 ∧
      StoreReady user (user.readX 9 + BitVec.signExtend 64 (-8 : BitVec 12)) 8 ∧
      StoreReady user (user.readX 9 + BitVec.signExtend 64 (-4 : BitVec 12)) 4 ∧
      StoreReady user (user.readX 9 + BitVec.signExtend 64 (-2 : BitVec 12)) 2 ∧
      StoreReady user (user.readX 9 + BitVec.signExtend 64 (-1 : BitVec 12)) 1 := by
  unfold StoreReady; decide +kernel
theorem witness_StoresComplete_indexed :
    StoreReady user (user.readX 4 + user.readX 7 <<< 3) 8 ∧ StoreReady user (user.readX 4 + user.readX 7 <<< 0) 4 ∧
      StoreReady user (user.readX 4 + user.readX 7 <<< 0) 2 ∧ StoreReady user (user.readX 4 + user.readX 7 <<< 0) 1 := by
  unfold StoreReady; decide +kernel
/-- With a displacement and with an index, for each of the three widths; R6 = 5. -/
theorem witness_MisalignedAccessesTrap :
    [2, 4, 8].all (fun n => decide ((user.readX 4 + BitVec.signExtend 64 (1 : BitVec 12)).toNat % n ≠ 0) &&
      decide ((user.readX 4 + user.readX 6 <<< 0).toNat % n ≠ 0)) = true := by decide +kernel
/-- R5 = 0x80000000, the first address that policy K refuses at EL0. -/
theorem witness_RefusedAccessesTrap :
    [1, 2, 4, 8].all (fun n => decide ((0x80000000 : Word).toNat % n = 0) &&
      !(machine 0x1000 [0] [(5, 0x80000000)] [] policyK []).accessOk .load 0x80000000 n &&
      !(machine 0x1000 [0] [(5, 0x80000000)] [] policyK []).accessOk .store 0x80000000 n) = true ∧
    (machine 0x1000 [0] [(5, 0x80000000)] [] policyK []).readX 5 + BitVec.signExtend 64 (0 : BitVec 12) = 0x80000000 ∧
    (machine 0x1000 [0] [(5, 0x80000000)] [] policyK []).readX 5 +
      (machine 0x1000 [0] [(5, 0x80000000)] [] policyK []).readX 0 <<< 3 = 0x80000000 := by decide +kernel
/-- Nothing has written the bytes from 0x17F8 and from 0x2000 on. -/
theorem witness_LoadsOfUnwrittenBytesFault :
    (∀ n ∈ [1, 2, 4, 8], (user.readX 4 + BitVec.signExtend 64 (0x7F8 : BitVec 12)).toNat % n = 0 ∧
      user.accessOk .load (user.readX 4 + BitVec.signExtend 64 (0x7F8 : BitVec 12)) n = true ∧
      LacksByte user (user.readX 4 + BitVec.signExtend 64 (0x7F8 : BitVec 12)) n) ∧
    ∀ n ∈ [1, 2, 4, 8], (user.readX 4 + user.readX 4 <<< 0).toNat % n = 0 ∧
      user.accessOk .load (user.readX 4 + user.readX 4 <<< 0) n = true ∧ LacksByte user (user.readX 4 + user.readX 4 <<< 0) n := by
  refine ⟨fun n hn => ⟨?_, rfl, 0, ?_, by decide +kernel⟩, fun n hn => ⟨?_, rfl, 0, ?_, by decide +kernel⟩⟩ <;>
    · fin_cases hn <;> decide +kernel
theorem witness_LongImmediatesComplete :
    NopReady user (user.pcByte + 4) 1 ∧ NopReady user (user.pcByte + 8) 2 ∧ NopReady supervisor (supervisor.pcByte + 4) 1 := by
  unfold NopReady FetchReady HoldsAt; decide +kernel
/-- The last word before the refused region; a word that is no NOP; a byte without a value: at pc + 4 and at pc + 8. -/
theorem witness_MissingExtensionWordsTrap :
    (machine 0x7FFFFFFC [0] [] [] policyK []).accessOk .fetch 0x80000000 4 = false ∧
      FetchReady (machine 0x1000 [0, 0x04000000] [] [] [] []) 0x1004 0x04000000 ∧
      LacksByte (machine 0x1000 [0] [] [] [] []) 0x1004 4 ∧
      (NopReady (machine 0x7FFFFFF8 [0, 1] [] [] policyK []) 0x7FFFFFFC 1 ∧
        (machine 0x7FFFFFF8 [0, 1] [] [] policyK []).accessOk .fetch 0x80000000 4 = false) ∧
      (NopReady (machine 0x1000 [0, 1, 0xFC000000] [] [] [] []) 0x1004 1 ∧
        FetchReady (machine 0x1000 [0, 1, 0xFC000000] [] [] [] []) 0x1008 0xFC000000) ∧
      (NopReady (machine 0x1000 [0, 1] [] [] [] []) 0x1004 1 ∧ LacksByte (machine 0x1000 [0, 1] [] [] [] []) 0x1008 4) := by
  unfold NopReady FetchReady HoldsAt
  refine ⟨by decide +kernel, by decide +kernel, ⟨0, by decide, by decide +kernel⟩, by decide +kernel, by decide +kernel,
    by decide +kernel, 0, by decide, by decide +kernel⟩
theorem witness_ShiftsComplete : 63 < 64 ∧ 0 < 64 := by decide
theorem witness_MultiplyAndAddShifted : 15 < 16 := by decide
/-- -2^63 divided by 1, and 5 divided by -1, are no corners; nor are 5 divided by the immediate -1, and by 1. -/
theorem witness_DivisionsComplete :
    [machine 0x1000 [] [(1, 0x8000000000000000), (2, 1)] [] [] [], machine 0x1000 [] [(1, 5), (2, 0xFFFFFFFFFFFFFFFF)] [] [] []].all
      (fun s => decide (s.readX 2 ≠ 0 ∧ ¬(s.readX 1 = BitVec.intMin 64 ∧ s.readX 2 = -1))) = true ∧
    ([-1, 1] : List (BitVec 12)).all (fun imm => decide (imm.signExtend 64 ≠ (0 : Word) ∧
      ¬((machine 0x1000 [] [(1, 5)] [] [] []).readX 1 = BitVec.intMin 64 ∧ imm.signExtend 64 = (-1 : Word)))) = true := by decide +kernel
theorem witness_OpenDivisionsComplete :
    (machine 0x1000 [] [(1, 0x8000000000000000), (2, 0xFFFFFFFFFFFFFFFF)] [] [] []).readX 1 = BitVec.intMin 64 ∧
      (machine 0x1000 [] [(1, 0x8000000000000000), (2, 0xFFFFFFFFFFFFFFFF)] [] [] []).readX 2 = -1 ∧ user.readX 2 = 0 ∧
      BitVec.signExtend 64 (0 : BitVec 12) = (0 : Word) ∧ BitVec.signExtend 64 (-1 : BitVec 12) = (-1 : Word) := by decide +kernel
/-- The number of a pattern, from its value. -/
theorem number_of {F : FpFormat} {p : Nat} {neg : Bool} {m : Nat} {q : ℤ} (h : F.value p = .num neg m q) :
    F.number p = some ((if neg then -1 else 1) * m * 2 ^ q : ℚ) := by simp [FpFormat.number, h]
/-- The same with the infinities. -/
theorem extended_of {F : FpFormat} {p : Nat} {neg : Bool} {m : Nat} {q : ℤ} (h : F.value p = .num neg m q) :
    F.extended p = some ((((if neg then -1 else 1) * m * 2 ^ q : ℝ)) : EReal) := by simp [FpFormat.extended, h]

/-- 1.0, -1.5, the zeros, the infinities and NaNs, in both precisions. -/
theorem single_one : single.number 0x3F800000 = some 1 := by rw [number_of (by decide +kernel : _ = FpValue.num false 8388608 (-23))]; norm_num
theorem single_negative : single.number 0xBFC00000 = some (-3 / 2) := by
  rw [number_of (by decide +kernel : _ = FpValue.num true 12582912 (-23))]; norm_num
theorem single_zero : single.number 0 = some 0 := by rw [number_of (by decide +kernel : _ = FpValue.num false 0 (-149))]; norm_num
theorem single_minus_zero : single.number 0x80000000 = some 0 := by
  rw [number_of (by decide +kernel : _ = FpValue.num true 0 (-149))]; norm_num
theorem double_one : double.number 0x3FF0000000000000 = some 1 := by
  rw [number_of (by decide +kernel : _ = FpValue.num false 4503599627370496 (-52))]; norm_num
theorem double_negative : double.number 0xBFF8000000000000 = some (-3 / 2) := by
  rw [number_of (by decide +kernel : _ = FpValue.num true 6755399441055744 (-52))]; norm_num
theorem double_zero : double.number 0 = some 0 := by rw [number_of (by decide +kernel : _ = FpValue.num false 0 (-1074))]; norm_num
/-- Which patterns are infinities and NaNs, in every instance. -/
theorem single_classes : ∀ rm : Config.RoundingMode,
    (ieee rm).single.isInf 0x7F800000 = true ∧ (ieee rm).single.isInf 0xFF800000 = true ∧ (ieee rm).single.isNan 0x7FC00000 = true ∧
      (ieee rm).single.isNan 0x3F800000 = false ∧ (ieee rm).single.isInf 0x3F800000 = false := by
  intro rm; cases rm <;> decide +kernel
theorem double_classes : ∀ rm : Config.RoundingMode,
    (ieee rm).double.isInf 0x7FF0000000000000 = true ∧ (ieee rm).double.isInf 0xFFF0000000000000 = true ∧
      (ieee rm).double.isNan 0x7FF8000000000000 = true ∧ (ieee rm).double.isNan 0x3FF0000000000000 = false := by
  intro rm; cases rm <;> decide +kernel

/-- -1.5 < 1.0 both ways round, +0 and -0 equal, an infinity; the NaN clauses are met by `single_classes` and `double_classes`. -/
theorem witness_FloatComparesCompareNumbers :
    (∃ x y : EReal, single.extended 0xBFC00000 = some x ∧ single.extended 0x3F800000 = some y ∧ x < y) ∧
      (∃ x y : EReal, single.extended 0 = some x ∧ single.extended 0x80000000 = some y ∧ x = y) ∧
      single.extended 0x7F800000 = some ⊤ ∧
      ∃ x y : EReal, double.extended 0xBFF8000000000000 = some x ∧ double.extended 0x3FF0000000000000 = some y ∧ x < y := by
  refine ⟨⟨_, _, extended_of (by decide +kernel : _ = FpValue.num true 12582912 (-23)), extended_of (by decide +kernel : _ = FpValue.num false 8388608 (-23)),
    EReal.coe_lt_coe_iff.2 (by norm_num)⟩, ⟨_, _, extended_of (by decide +kernel : _ = FpValue.num false 0 (-149)),
    extended_of (by decide +kernel : _ = FpValue.num true 0 (-149)), by simp⟩, ?_,
    ⟨_, _, extended_of (by decide +kernel : _ = FpValue.num true 6755399441055744 (-52)),
      extended_of (by decide +kernel : _ = FpValue.num false 4503599627370496 (-52)), EReal.coe_lt_coe_iff.2 (by norm_num)⟩⟩
  have h : single.value 0x7F800000 = .inf false := by decide +kernel
  simp [FpFormat.extended, h]
theorem witness_SingleSurvivesWidening : (ieee .upward).single.isNan 0x3F800000 = false ∧ single.number (0x3F800000 : BitVec 32).toNat = some 1 :=
  ⟨(single_classes .upward).2.2.2.1, single_one⟩
theorem witness_IntegersSurviveDouble :
    (0x20000000000000 : Word).toInt.natAbs ≤ 2 ^ 53 ∧ (-0x20000000000000 : Word).toInt.natAbs ≤ 2 ^ 53 := by decide
/-- 1.0 + -1.5 is not 0 and +0 + -0 is; an infinity and 1.0; two infinities of different signs. -/
theorem witness_AdditionRoundsToNearest :
    (single.number 0x3F800000 = some 1 ∧ single.number 0xBFC00000 = some (-3 / 2) ∧ (1 : ℚ) + -3 / 2 ≠ 0) ∧
      (single.number 0 = some 0 ∧ single.number 0x80000000 = some 0 ∧ (0 : ℚ) + 0 = 0) ∧
      (double.number 0x3FF0000000000000 = some 1 ∧ double.number 0xBFF8000000000000 = some (-3 / 2)) ∧
      ((ieee .nearestEven).single.isInf 0x7F800000 = true ∧ (ieee .nearestEven).single.isNan 0x3F800000 = false ∧
        (ieee .nearestEven).single.isInf 0x3F800000 = false) ∧
      ((ieee .nearestEven).single.isInf 0x7F800000 = true ∧ (ieee .nearestEven).single.isInf 0xFF800000 = true) := by
  have h := single_classes .nearestEven
  exact ⟨⟨single_one, single_negative, by norm_num⟩, ⟨single_zero, single_minus_zero, by norm_num⟩, ⟨double_one, double_negative⟩,
    ⟨h.1, h.2.2.2.1, h.2.2.2.2⟩, h.1, h.2.1⟩
/-- -1.5 and 1.0, 1.0 and 0, 0 and 0, an infinity with each, two infinities, a NaN. -/
theorem witness_ProductsAndQuotientsRoundToNearest :
    single.number 0xBFC00000 = some (-3 / 2) ∧ single.number 0x3F800000 = some 1 ∧ single.number 0 = some 0 ∧
      double.number 0xBFF8000000000000 = some (-3 / 2) ∧ double.number 0x3FF0000000000000 = some 1 ∧ double.number 0 = some 0 ∧
      (ieee .nearestEven).single.isInf 0xFF800000 = true ∧ (ieee .nearestEven).single.isNan 0x7FC00000 = true ∧
      (ieee .nearestEven).double.isInf 0xFFF0000000000000 = true ∧ (ieee .nearestEven).double.isNan 0x7FF8000000000000 = true := by
  have h := single_classes .nearestEven
  have k := double_classes .nearestEven
  exact ⟨single_negative, single_one, single_zero, double_negative, double_one, double_zero, h.2.1, h.2.2.1, k.2.1, k.2.2.1⟩
/-- 1.0, -0, -1.5, +infinity, -infinity, a NaN. -/
theorem witness_SquareRootsRoundToNearest :
    single.number 0x3F800000 = some 1 ∧ single.number 0x80000000 = some 0 ∧ single.number 0xBFC00000 = some (-3 / 2) ∧
      ((ieee .nearestEven).single.isInf 0x7F800000 = true ∧ (0x7F800000 : BitVec 32).msb = false) ∧
      ((ieee .nearestEven).single.isInf 0xFF800000 = true ∧ (0xFF800000 : BitVec 32).msb = true) ∧
      (ieee .nearestEven).single.isNan 0x7FC00000 = true ∧ double.number 0x3FF0000000000000 = some 1 := by
  have h := single_classes .nearestEven
  exact ⟨single_one, single_minus_zero, single_negative, ⟨h.1, by decide⟩, ⟨h.2.1, by decide⟩, h.2.2.1, double_one⟩
/-- -1.5, which every mode rounds to a 64-bit integer; the integral 1.0; an infinity and a NaN. -/
theorem witness_RoundingToIntegers :
    single.number 0xBFC00000 = some (-3 / 2) ∧ double.number 0xBFF8000000000000 = some (-3 / 2) ∧
      single.number 0x3F800000 = some ((1 : ℤ) : ℚ) ∧ double.number 0x3FF0000000000000 = some ((1 : ℤ) : ℚ) ∧
      (ieee .towardZero).single.isInf 0x7F800000 = true ∧ (ieee .downward).double.isNan 0x7FF8000000000000 = true := by
  have h := single_classes .towardZero
  have k := double_classes .downward
  exact ⟨single_negative, double_negative, by simpa using single_one, by simpa using double_one, h.1, k.2.2.1⟩
theorem witness_ConversionsRoundToNearest :
    double.number 0xBFF8000000000000 = some (-3 / 2) ∧ (ieee .nearestEven).double.isInf 0x7FF0000000000000 = true ∧
      (ieee .nearestEven).double.isNan 0x7FF8000000000000 = true ∧ (ieee .nearestEven).single.isNan 0x7FC00000 = true :=
  ⟨double_negative, (double_classes _).1, (double_classes _).2.2.1, (single_classes _).2.2.1⟩
theorem witness_ReturnFromException : supervisor.el ≠ 0 := by decide +kernel
theorem witness_PrivilegedInstructionsTrapAtUserLevel : user.el = 0 := by decide +kernel
theorem witness_MovesComplete : supervisor.el ≠ 0 := by decide +kernel
theorem witness_ReservedExceptionRegisters :
    ([8, 15, 21, 29] : List Reg).all (fun i => decide (8 ≤ i.val ∧ i.val ≤ 15 ∨ 21 ≤ i.val ∧ i.val ≤ 29)) = true ∧
      ([0, 7, 16, 20, 30, 31] : List Reg).all (fun i => decide ¬(8 ≤ i.val ∧ i.val ≤ 15 ∨ 21 ≤ i.val ∧ i.val ≤ 29)) = true ∧
      supervisor.el ≠ 0 := by decide +kernel

end Sys2Proof.Tests
end

/-! SUPPORT. What every instruction and every step can do to the state, said once, and the statements of 10_state.md that follow
from it. -/

namespace Sys2Proof.Machine

open Sys2Proof

/-! ### What the level selects (R27, R442, R443) -/

theorem State.writeX_of_user {s : State} (h : s.el = 0) (i : Reg) (v : Word) : s.writeX i v = s.writeR i v := if_pos h

theorem State.readX_of_above_user {s : State} (h : s.el ≠ 0) (i : Reg) : s.readX i = s.readE i := if_neg h

theorem State.writeX_of_above_user {s : State} (h : s.el ≠ 0) (i : Reg) (v : Word) : s.writeX i v = s.writeE i v := if_neg h

theorem State.privileged_of_above_user {s : State} (h : s.el ≠ 0) (t : State) : s.privileged t = t := if_neg h

/-! ### The ways an instruction ends -/

/-- Every way in which the instruction `i` can end that started in `s`: the pc moves; a register field is written and the pc
moves; a store; an exception, which is IllegalSysReg only at EL0; SCALL, DCALL, SRET; and the special moves, which name their
register file themselves (45_system.md). -/
inductive EndsIn (i : Instr) (s : State) : State → Prop
  | moved (a : BitVec 62) : EndsIn i s (s.setAddr a)
  | wrote (d : Reg) (v : Word) (a : BitVec 62) : EndsIn i s ((s.writeX d v).setAddr a)
  | stored (addr : Word) (n : Nat) (v : BitVec (8 * n)) (hi : storesMemory i = true) : EndsIn i s (s.stored addr n v).advance
  | raised (c : SyncCause) (hc : s.el ≠ 0 → c ≠ .illegalSysReg) : EndsIn i s (s.raise c)
  | systemCall (imm : BitVec 12) (hi : i = .scall imm) : EndsIn i s (s.enter .systemCall (serviceCode imm) none)
  | debuggerCall (imm : BitVec 12) (hi : i = .dcall imm) : EndsIn i s (s.enter .debuggerCall (serviceCode imm) none)
  | returned (imm : BitVec 12) (hi : i = .sret imm) (hl : s.el ≠ 0) : EndsIn i s (s.returnFrom imm)
  | wroteGeneral (d : Reg) (v : Word) (hi : ∃ a, i = .movrc a d ∨ i = .movre a d) : EndsIn i s (s.writeR d v).advance
  | wroteException (d : Reg) (v : Word) (hl : s.el ≠ 0) : EndsIn i s (s.writeE d v).advance

/-- If the answer is a next state, the instruction `i` can end in it. -/
def AnswerEndsIn (i : Instr) (s : State) (x : Answer) : Prop := ∀ t, x = .next t → EndsIn i s t

theorem AnswerEndsIn.next {i : Instr} {s t : State} (h : EndsIn i s t) : AnswerEndsIn i s (.next t) := by
  rintro u ⟨⟩
  exact h

/-! ### The attempts of an instruction never raise IllegalSysReg -/

theorem Attempt.bind_ne_trap {α β : Type} {x : Attempt α} {k : α → Attempt β} {c : SyncCause} (hx : x ≠ .trap c)
    (hk : ∀ a, k a ≠ .trap c) : x.bind k ≠ .trap c := by
  cases x with
  | done a => exact hk a
  | trap d => exact fun h => hx (by cases h; rfl)
  | stuck f => nofun

theorem Attempt.bind_eq_done {α β : Type} {x : Attempt α} {k : α → Attempt β} {b : β} (h : x.bind k = .done b) :
    ∃ a, x = .done a ∧ k a = .done b := by
  cases x with
  | done a => exact ⟨a, rfl, h⟩
  | trap c => cases h
  | stuck f => cases h

theorem State.memRead_ne_illegalSysReg (s : State) (a : Word) (n : Nat) : s.memRead a n ≠ .trap .illegalSysReg := by
  obtain ⟨-, h⟩ | ⟨-, -, h⟩ | ⟨-, -, ⟨-, h⟩ | ⟨bs, -, h⟩⟩ := s.memRead_cases a n <;> simp [h]

theorem State.memWrite_ne_illegalSysReg (s : State) (a : Word) (n : Nat) (v : BitVec (8 * n)) :
    s.memWrite a n v ≠ .trap .illegalSysReg := by
  obtain ⟨-, h⟩ | ⟨-, -, h⟩ | ⟨-, -, h⟩ := s.memWrite_cases a n v <;> simp [h]

theorem State.fetchWord_ne_illegalSysReg (s : State) (a : Word) : s.fetchWord a ≠ .trap .illegalSysReg := by
  obtain ⟨-, h⟩ | ⟨-, ⟨-, h⟩ | ⟨bs, -, h⟩⟩ := s.fetchWord_cases a <;> simp [h]

theorem State.extensionWord_ne_illegalSysReg (s : State) (a : Word) : s.extensionWord a ≠ .trap .illegalSysReg :=
  Attempt.bind_ne_trap (s.fetchWord_ne_illegalSysReg a) fun w => by split <;> simp

theorem State.readImm1_ne_illegalSysReg (s : State) (i : BitVec 12) : s.readImm1 i ≠ .trap .illegalSysReg :=
  Attempt.bind_ne_trap (s.extensionWord_ne_illegalSysReg _) nofun

theorem State.readImm2_ne_illegalSysReg (s : State) (i : BitVec 12) : s.readImm2 i ≠ .trap .illegalSysReg :=
  Attempt.bind_ne_trap (s.extensionWord_ne_illegalSysReg _) nofun

theorem State.readImm3_ne_illegalSysReg (s : State) (i : BitVec 12) : s.readImm3 i ≠ .trap .illegalSysReg :=
  Attempt.bind_ne_trap (s.extensionWord_ne_illegalSysReg _) fun _ =>
    Attempt.bind_ne_trap (s.extensionWord_ne_illegalSysReg _) nofun

/-! ### How each instruction form ends -/

theorem EndsIn.result (i : Instr) (s : State) (d : Reg) (v : Word) : EndsIn i s (s.result d v) := .wrote d v _

theorem EndsIn.branch (i : Instr) (s : State) (taken : Bool) (off : BitVec 16) : EndsIn i s (s.branch taken off) := by
  cases taken with
  | false => exact .moved _
  | true => exact .moved _

theorem EndsIn.countAndBranch (i : Instr) (s : State) (a b : Reg) (count : Word) (off : BitVec 16) :
    EndsIn i s (s.countAndBranch a b count off) := by
  unfold State.countAndBranch State.branch
  split
  · exact .wrote b count _
  · exact .wrote b count _

theorem EndsIn.privileged {i : Instr} {s t : State} (h : s.el ≠ 0 → EndsIn i s t) : EndsIn i s (s.privileged t) := by
  unfold State.privileged
  split
  next hl => exact .raised _ (absurd hl)
  next hl => exact h hl

/-- An attempt that raises no IllegalSysReg ends as its value does, or in an exception. -/
theorem AnswerEndsIn.of_finish {i : Instr} {s : State} {x : Attempt State} (hx : x ≠ .trap .illegalSysReg)
    (hd : ∀ t, x = .done t → EndsIn i s t) : AnswerEndsIn i s (finish s x) := by
  intro t h
  obtain hdone | ⟨c, hc, rfl⟩ := finish_next h
  · exact hd t hdone
  · exact .raised c fun _ hs => hx (hs ▸ hc)

/-- Reading a value and writing a result made of it. -/
theorem AnswerEndsIn.readThenResult (i : Instr) (s : State) (d : Reg) {α : Type} {x : Attempt α} (hx : x ≠ .trap .illegalSysReg)
    (f : α → Word) : AnswerEndsIn i s (finish s (x.bind fun v => .done (s.result d (f v)))) := by
  refine .of_finish (Attempt.bind_ne_trap hx nofun) fun t h => ?_
  obtain ⟨v, -, hv⟩ := Attempt.bind_eq_done h
  cases hv
  exact .result i s d _

theorem AnswerEndsIn.loadUnsigned (i : Instr) (s : State) (d : Reg) (addr : Word) (n : Nat) :
    AnswerEndsIn i s (s.loadUnsigned d addr n) := .readThenResult i s d (s.memRead_ne_illegalSysReg addr n) _

theorem AnswerEndsIn.loadSigned (i : Instr) (s : State) (d : Reg) (addr : Word) (n : Nat) :
    AnswerEndsIn i s (s.loadSigned d addr n) := .readThenResult i s d (s.memRead_ne_illegalSysReg addr n) _

theorem AnswerEndsIn.longResult (i : Instr) (s : State) (b : Reg) {imm : Attempt Word} (hx : imm ≠ .trap .illegalSysReg)
    (f : Word → Word) : AnswerEndsIn i s (s.longResult b imm f) := .readThenResult i s b hx f

theorem AnswerEndsIn.store {i : Instr} (hi : storesMemory i = true) (s : State) (addr : Word) (n : Nat) (v : Word) :
    AnswerEndsIn i s (s.store addr n v) := by
  refine .of_finish (Attempt.bind_ne_trap (s.memWrite_ne_illegalSysReg addr n _) nofun) fun t h => ?_
  obtain ⟨u, hu, ht⟩ := Attempt.bind_eq_done h
  cases ht
  obtain ⟨-, hw⟩ | ⟨-, -, hw⟩ | ⟨-, -, hw⟩ := s.memWrite_cases addr n (v.setWidth (8 * n)) <;> rw [hw] at hu <;> cases hu
  exact .stored addr n _ hi

/-- THE INVERSION OF `exec`: every instruction ends in one of the ways of `EndsIn`. The arms stand by instruction form. -/
theorem exec_answerEndsIn (i : Instr) (s : State) : AnswerEndsIn i s (exec i s) :=
  match i with
  | .nop .. | .j .. | .jr .. => .next (.moved _)
  | .jal .. | .jalr .. => .next (.wrote _ _ _)
  -- branches
  | .beq .. | .bne .. | .blt .. | .bge .. | .bltu .. | .bgeu .. | .beqi .. | .bnei .. | .blti .. | .bgei .. | .bltui ..
    | .bgeui .. =>
    .next (.branch _ s _ _)
  | .loop .. | .loopd .. => .next (.countAndBranch _ s _ _ _ _)
  -- loads, zero-extended
  | .lbu .. | .lhu .. | .lwu .. | .ldu .. | .lbuX .. | .lhuX .. | .lwuX .. | .lduX .. =>
    .loadUnsigned _ s _ _ _
  -- loads, sign-extended
  | .lb .. | .lh .. | .lw .. | .ld .. | .lbX .. | .lhX .. | .lwX .. | .ldX .. =>
    .loadSigned _ s _ _ _
  -- stores
  | .sb .. | .sh .. | .sw .. | .sd .. | .sbX .. | .shX .. | .swX .. | .sdX .. =>
    .store rfl s _ _ _
  -- ALUI
  | .addI .. | .naddI .. | .andI .. | .candI .. | .orI .. | .corI .. | .xorI .. | .setI .. | .eqI .. | .neI .. | .ltI ..
    | .geI .. | .ltuI .. | .geuI .. | .minI .. | .maxI .. =>
    .next (.result _ s _ _)
  -- SHIFT
  | .shlr .. | .shlr1 .. | .salr .. | .rorI .. | .mulI .. | .divI .. | .modI .. | .divuI .. | .moduI .. =>
    .next (.result _ s _ _)
  -- ALU
  | .add .. | .nadd .. | .and .. | .cand .. | .or .. | .cor .. | .xor .. | .xnor .. | .eq .. | .ne .. | .lt .. | .ge ..
    | .ltu .. | .geu .. | .min .. | .max .. | .shl .. | .shr .. | .sar .. | .ror .. | .mul .. | .div .. | .mod .. | .divu ..
    | .modu .. | .adds .. | .nadds .. =>
    .next (.result _ s _ _)
  -- ALU3
  | .add3 .. | .nadd3 .. | .and3 .. | .cand3 .. | .or3 .. | .cor3 .. | .xor3 .. | .xnor3 .. | .andeq .. | .andne ..
    | .andlt .. | .andge .. | .andltu .. | .andgeu .. | .minu3 .. | .maxu3 .. | .oreq .. | .orne .. | .orlt .. | .orge ..
    | .orltu .. | .orgeu .. | .min3 .. | .max3 .. | .sel .. | .seln .. | .selp .. | .madd .. | .nmadd .. =>
    .next (.result _ s _ _)
  -- FPU1
  | .absS .. | .absD .. | .negS .. | .negD .. | .sqrtS .. | .sqrtD .. | .cvtSD .. | .cvtDS .. | .cvtSI .. | .cvtDI ..
    | .cvtIS .. | .cvtID .. | .rintS .. | .rintD .. =>
    .next (.result _ s _ _)
  -- FPU2
  | .eqS .. | .eqD .. | .neS .. | .neD .. | .ltS .. | .ltD .. | .geS .. | .geD .. | .infS .. | .infD .. | .nanS .. | .nanD ..
    | .addS .. | .addD .. | .naddS .. | .naddD .. | .mulS .. | .mulD .. | .divS .. | .divD .. | .minS .. | .minD ..
    | .maxS .. | .maxD .. =>
    .next (.result _ s _ _)
  -- FPU3
  | .andeqS .. | .andeqD .. | .andneS .. | .andneD .. | .andltS .. | .andltD .. | .andgeS .. | .andgeD .. | .oreqS ..
    | .oreqD .. | .orneS .. | .orneD .. | .orltS .. | .orltD .. | .orgeS .. | .orgeD .. | .add3S .. | .add3D .. | .nadd3S ..
    | .nadd3D .. | .maddS .. | .maddD .. | .nmaddS .. | .nmaddD .. | .min3S .. | .min3D .. | .max3S .. | .max3D .. =>
    .next (.result _ s _ _)
  -- ALUI1
  | .addI1 .. | .naddI1 .. | .andI1 .. | .candI1 .. | .orI1 .. | .corI1 .. | .xorI1 .. | .setI1 .. | .eqI1 .. | .neI1 ..
    | .ltI1 .. | .geI1 .. | .ltuI1 .. | .geuI1 .. | .minI1 .. | .maxI1 .. =>
    .longResult _ s _ (s.readImm1_ne_illegalSysReg _) _
  -- ALUI2
  | .addI2 .. | .naddI2 .. | .andI2 .. | .candI2 .. | .orI2 .. | .corI2 .. | .xorI2 .. | .setI2 .. | .eqI2 .. | .neI2 ..
    | .ltI2 .. | .geI2 .. | .ltuI2 .. | .geuI2 .. | .minI2 .. | .maxI2 .. =>
    .longResult _ s _ (s.readImm2_ne_illegalSysReg _) _
  -- ALUI3
  | .addI3 .. | .naddI3 .. | .andI3 .. | .candI3 .. | .orI3 .. | .corI3 .. | .xorI3 .. | .setI3 .. | .eqI3 .. | .neI3 ..
    | .ltI3 .. | .geI3 .. | .ltuI3 .. | .geuI3 .. | .minI3 .. | .maxI3 .. =>
    .longResult _ s _ (s.readImm3_ne_illegalSysReg _) _
  -- RET
  | .retAdd .. | .retNadd .. | .retAnd .. | .retCand .. | .retOr .. | .retCor .. | .retXor .. | .retSet .. | .retEq ..
    | .retNe .. | .retLt .. | .retGe .. | .retLtu .. | .retGeu .. | .retMin .. | .retMax .. =>
    .next (.wrote _ _ _)
  | .scall imm => .next (.systemCall imm rfl)
  | .dcall imm => .next (.debuggerCall imm rfl)
  | .sret imm => .next (.privileged (.returned imm rfl))
  | .movrc a d => .next (.wroteGeneral d _ ⟨a, .inl rfl⟩)
  | .movec _ d => .next (.privileged (.wroteException d _))
  | .mover _ d => .next (.privileged (.wroteException d _))
  | .movre a d => .next (.privileged fun _ => .wroteGeneral d _ ⟨a, .inr rfl⟩)

theorem exec_endsIn {i : Instr} {s t : State} (h : exec i s = .next t) : EndsIn i s t := exec_answerEndsIn i s t h

/-! ### What every instruction leaves unchanged -/

theorem State.sameRest_setAddr (s : State) (a : BitVec 62) : SameRest s (s.setAddr a) := by simp [SameRest, SameParameters]

theorem State.sameRest_enter (s : State) (k : ExceptionType) (code : Word) (bad : Option Word) : SameRest s (s.enter k code bad) := by
  simp [SameRest, SameParameters]

theorem EndsIn.sameRest {i : Instr} {s t : State} (h : EndsIn i s t) : SameRest s t := by
  cases h with
  | moved a => exact s.sameRest_setAddr a
  | raised c _ => exact s.sameRest_enter _ _ _
  | systemCall imm _ => exact s.sameRest_enter _ _ _
  | debuggerCall imm _ => exact s.sameRest_enter _ _ _
  | wrote d v a => simp [SameRest, SameParameters]
  | stored addr n v _ => simp [SameRest, SameParameters]
  | returned imm _ _ => simp [SameRest, SameParameters]
  | wroteGeneral d v _ => simp [SameRest, SameParameters]
  | wroteException d v _ => simp [SameRest, SameParameters]

/-- Settles O15: each way of `EndsIn` writes registers, memory or the pc only. -/
theorem noInstructionWritesCounters : Obligations.NoInstructionWritesCounters :=
  fun _ _ _ h => (exec_endsIn h).sameRest

theorem EndsIn.sameR_of_above_user {i : Instr} {s t : State} (h : EndsIn i s t) (hl : s.el ≠ 0)
    (hi : ∀ a d, i ≠ .movrc a d ∧ i ≠ .movre a d) : SameR s t := by
  intro r
  cases h with
  | wrote d v a => rw [State.setAddr_readR, State.writeX_of_above_user hl, State.writeE_readR]
  | wroteGeneral d v hm =>
    obtain ⟨a, rfl | rfl⟩ := hm
    · exact absurd rfl (hi a d).1
    · exact absurd rfl (hi a d).2
  | wroteException d v _ => simp
  | _ => rfl

/-- Settles O18: above EL0 a register field names an exception register, so only MOVRC and MOVRE name a general one. -/
theorem onlyTwoMovesReachGeneralRegistersAboveUser : Obligations.OnlyTwoMovesReachGeneralRegistersAboveUser :=
  fun _ _ _ hl h hi => (exec_endsIn h).sameR_of_above_user hl hi

/-! ### The level and the exception registers -/

@[simp] theorem State.returnFrom_el (s : State) (n : BitVec 12) : (s.returnFrom n).el = (s.readE 16).extractLsb' 0 2 :=
  append_low_bits _ _

/-- Each of the six causes has one of the codes 0 to 5, with a bad address from 2 on (R451). -/
theorem State.raisedSome_raise (s : State) (c : SyncCause) : RaisedSome s (s.raise c) := by
  have h := s.raised_raise c
  cases c with
  | invalidInstruction => exact .inl h
  | illegalSysReg => exact .inr (.inl h)
  | misaligned a => exact .inr (.inr ⟨2, by simp, a, h⟩)
  | illegalFetch a => exact .inr (.inr ⟨3, by simp, a, h⟩)
  | illegalLoad a => exact .inr (.inr ⟨4, by simp, a, h⟩)
  | illegalStore a => exact .inr (.inr ⟨5, by simp, a, h⟩)

/-- ECODE holds the code of an exception that was taken. -/
theorem TookException.readE_ecode {s t : State} {offset code : Word} {bad : Option Word} (h : TookException s offset code bad t) :
    t.readE 18 = code := by
  obtain ⟨-, -, -, hE, -⟩ := h
  simpa using hE 18

theorem SyncCause.eq_illegalSysReg_of_code {c : SyncCause} (h : c.code = 1) : c = .illegalSysReg := by
  cases c <;> simp_all [SyncCause.code]

theorem State.not_raised_one_raise {s : State} {c : SyncCause} (hc : c ≠ .illegalSysReg) : ¬Raised s 1 none (s.raise c) := by
  intro h
  have hcode : c.code = 1 := (s.raised_raise c).readE_ecode.symm.trans h.readE_ecode
  exact hc (SyncCause.eq_illegalSysReg_of_code hcode)

/-- Settles O16: the pc moves within its level in every way of `EndsIn` but the entries and the return. -/
theorem whatChangesTheLevel : Obligations.WhatChangesTheLevel := by
  intro i s t h
  cases exec_endsIn h with
  | raised c hc => exact .inr (.inr (.inr (.inl ⟨s.raisedSome_raise c, fun hl => State.not_raised_one_raise (hc hl)⟩)))
  | systemCall imm hi => exact .inr (.inl ⟨imm, hi, s.tookException_enter .systemCall _ none⟩)
  | debuggerCall imm hi => exact .inr (.inr (.inl ⟨imm, hi, s.tookException_enter .debuggerCall _ none⟩))
  | returned imm hi hl => exact .inr (.inr (.inr (.inr ⟨imm, hi, hl, s.returnFrom_el imm⟩)))
  | moved a => exact .inl (by simp)
  | wrote d v a => exact .inl (by simp)
  | stored addr n v _ => exact .inl (by simp)
  | wroteGeneral d v _ => exact .inl (by simp)
  | wroteException d v _ => exact .inl (by simp)

/-- What an instruction at EL0 can do to the exception registers: nothing, unless it takes an exception. -/
theorem EndsIn.readE_of_user {i : Instr} {s t : State} (h : EndsIn i s t) (hl : s.el = 0) :
    (t.el = 0 ∧ SameE s t) ∨
      (∃ imm : BitVec 12, TookException s 0x00 (imm.zeroExtend 64) none t ∨ TookException s 0x40 (imm.zeroExtend 64) none t) ∨
      RaisedSome s t := by
  cases h with
  | raised c _ => exact .inr (.inr (s.raisedSome_raise c))
  | systemCall imm _ => exact .inr (.inl ⟨imm, .inl (s.tookException_enter .systemCall _ none)⟩)
  | debuggerCall imm _ => exact .inr (.inl ⟨imm, .inr (s.tookException_enter .debuggerCall _ none)⟩)
  | returned imm _ hn => exact absurd hl hn
  | wroteException d v hn => exact absurd hl hn
  | moved a => exact .inl ⟨by simp [hl], fun _ => rfl⟩
  | wrote d v a => exact .inl ⟨by simp [hl], fun _ => by rw [State.setAddr_readE, State.writeX_of_user hl, State.writeR_readE]⟩
  | stored addr n v _ => exact .inl ⟨by simp [hl], fun _ => rfl⟩
  | wroteGeneral d v _ => exact .inl ⟨by simp [hl], fun _ => rfl⟩

/-! ### What a step can do -/

/-- THE INVERSION OF `step`: once the step has begun, it takes an interrupt, raises an exception in place of the instruction, or
executes one. -/
theorem step_next {s t : State} (h : step s = .next t) :
    (∃ k, s.begun.chosenSource = some k ∧ t = s.begun.takeInterrupt k) ∨ (∃ c, t = s.begun.raise c) ∨
      ∃ i, exec i s.begun = .next t := by
  unfold step at h
  split at h
  · cases h
  unfold State.cycle at h
  split at h
  next k hk =>
    cases h
    exact .inl ⟨k, hk, rfl⟩
  next =>
    right
    unfold State.fetchAndExecute at h
    split at h
    next w _ =>
      unfold State.executeWord at h
      split at h
      next i _ => exact .inr ⟨i, h⟩
      next =>
        cases h
        exact .inl ⟨.invalidInstruction, rfl⟩
    next c _ =>
      cases h
      exact .inl ⟨c, rfl⟩
    next => cases h

/-- After its start, a step leaves the counters and the parameters alone. -/
theorem step_sameRest {s t : State} (h : step s = .next t) : SameRest s.begun t := by
  obtain ⟨k, -, rfl⟩ | ⟨c, rfl⟩ | ⟨i, hi⟩ := step_next h
  · exact s.begun.sameRest_enter _ _ _
  · exact s.begun.sameRest_enter _ _ _
  · exact (exec_endsIn hi).sameRest

/-- The source of an interrupt that is taken is one of the machine's (R463, R466). -/
theorem State.irqSources_of_chosenSource {s : State} {k : Nat} (h : s.chosenSource = some k) : s.irqSources.getLsbD k = true := by
  obtain ⟨-, htaken⟩ := State.chosenSource_eq_some h
  obtain ⟨hactive, -⟩ := State.takenOf_eq_some htaken
  rw [State.activeSources, BitVec.getLsbD_and, Bool.and_eq_true] at hactive
  exact hactive.1

theorem State.irq_ecode_of_standard {s : State} (h : s.irqInstance = .standard) (k : Nat) : s.irq.ecode k = BitVec.ofNat 64 k := by
  rw [State.irq, h]
  rfl

/-- Settles O17: of the three things a step can do, an interrupt is an entry, and an instruction at EL0 reaches the exception
registers by an entry only. -/
theorem userStepsCannotTouchExceptionRegisters : Obligations.UserStepsCannotTouchExceptionRegisters := by
  intro s t hl h
  obtain ⟨k, hk, rfl⟩ | ⟨c, rfl⟩ | ⟨i, hi⟩ := step_next h
  · have hsource : s.irqSources.getLsbD k = true := by simpa using State.irqSources_of_chosenSource hk
    have htook := s.begun.tookException_enter .asynchronous (s.begun.irq.ecode k) none
    rw [State.begun_irq] at htook
    refine .inr (.inr (.inr ⟨k, BitVec.lt_of_getLsbD hsource, hsource, ?_, fun hstd => State.irq_ecode_of_standard hstd k⟩))
    rw [State.takeInterrupt, State.begun_irq]
    exact htook
  · exact .inr (.inr (.inl (s.begun.raisedSome_raise c)))
  · obtain hsame | hcall | hraised := (exec_endsIn hi).readE_of_user (by simpa using hl)
    · exact .inl hsame
    · exact .inr (.inl hcall)
    · exact .inr (.inr (.inl hraised))

/-! ### How a step begins -/

theorem State.readC_congr {s t : State} (hc : t.c = s.c) (hi : t.counterImpl = s.counterImpl) (i : Reg) :
    t.readC i = s.readC i := by
  unfold State.readC State.undefinedC
  rw [hc, hi]

theorem State.begun_readC (s : State) (i : Reg) : s.begun.readC i = s.tick.readC i := s.tick.sampleInts_readC i

theorem State.begun_le (s : State) (i : Reg) : (s.readC i).toNat ≤ (s.begun.readC i).toNat := by
  rw [State.begun_readC]
  exact s.tick_le i

theorem State.begun_readC_same (s : State) (i : Reg) (h : s.counts i = false) : s.begun.readC i = s.readC i := by
  rw [State.begun_readC, State.tick_same s i h]

/-- Settles O14: the start of a step never lowers a counter, and the rest of it leaves them alone. -/
theorem countersNeverGoDown : Obligations.CountersNeverGoDown := by
  intro s t h i
  obtain ⟨hc, -, ⟨-, -, himpl, -⟩, -⟩ := step_sameRest h
  rw [State.readC_congr hc himpl i]
  exact s.begun_le i

/-- With no value to give, INTS is not sampled (R463). -/
theorem State.begun_of_no_input {s : State} (h : s.irqInputs = []) : s.begun = s.tick := by
  unfold State.begun State.sampleInts
  rw [State.tick_irqInputs, h]

/-- The next value that the hardware gives goes to INTS (R36, R463). -/
theorem State.begun_of_input {s : State} {v : Word} {rest : List Word} (h : s.irqInputs = v :: rest) :
    s.begun = { s.tick with e := s.e.set intsNo v, irqInputs := rest } := by
  unfold State.begun State.sampleInts
  rw [State.tick_irqInputs, h]
  rfl

/-- A write to another place of a bank of registers. -/
theorem getElem_set_of_ne (e : Vector Word 32) {d i : Reg} (v : Word) (h : i ≠ d) : (e.set d v)[i] = e[i] :=
  Vector.getElem_set_ne _ _ fun he => h (Fin.ext he.symm)

theorem State.readE_congr {s t : State} {i : Reg} (h : t.e[i] = s.e[i]) : t.readE i = s.readE i := by
  unfold State.readE
  rw [h]

theorem State.begun_readE_of_ne (s : State) (i : Reg) (hi : i ≠ 19) : s.begun.readE i = s.readE i := by
  cases h : s.irqInputs with
  | nil => rw [State.begun_of_no_input h, State.tick_readE]
  | cons v rest =>
    rw [State.begun_of_input h]
    exact State.readE_congr (getElem_set_of_ne s.e v hi)

theorem State.begun_readE_ints {s : State} {v : Word} {rest : List Word} (h : s.irqInputs = v :: rest) :
    s.begun.readE 19 = v := by
  have hdefined : undefinedE 19 = false := by decide
  rw [State.begun_of_input h]
  simp [State.readE, hdefined, intsNo]

theorem State.readC_of_not_implemented {s : State} {i : Reg} (hi : i.val ∉ [0, 1, 4, 5, 8]) (h : s.counterImpl[i] = false) :
    s.readC i = 0 := by
  have hdefined : definedC i = false := by simpa [definedC] using hi
  have hundefined : s.undefinedC i = true := by
    rw [State.undefinedC, hdefined, h]
    rfl
  rw [State.readC, hundefined]
  rfl

theorem State.sameParameters_begun (s : State) : SameParameters s s.begun := by simp [SameParameters]

/-- Settles O11, clause by clause: the registers, INTS, the counters and the parameters. -/
theorem howAStepBegins : Obligations.HowAStepBegins := by
  intro s
  refine ⟨s.begun_readR, fun a => by rw [State.begun_mem], s.begun_pc, s.begun_readE_of_ne, fun h => ?_, fun v rest h => ⟨?_, ?_⟩,
    s.begun_le, fun hl => ⟨?_, ?_⟩, fun hl => ⟨?_, ?_⟩, fun i hi h => State.readC_of_not_implemented hi h, s.sameParameters_begun⟩
  · rw [State.begun_of_no_input h, State.tick_readE]
  · exact State.begun_readE_ints h
  · rw [State.begun_of_input h]
  · exact s.begun_readC_same 1 (by simpa [State.counts] using hl)
  · exact s.begun_readC_same 5 (by simpa [State.counts] using hl)
  · exact s.begun_readC_same 0 (by simpa [State.counts] using hl)
  · exact s.begun_readC_same 4 (by simpa [State.counts] using hl)

/-! ### The invariant -/

/-- The places of the reserved exception registers are as before (R30). -/
def KeepsReserved (s t : State) : Prop := ∀ i : Reg, undefinedE i = true → t.e[i] = s.e[i]

theorem KeepsReserved.of_eq {s t : State} (h : t.e = s.e) : KeepsReserved s t := fun i _ => by rw [h]

/-- A write to a place that is not reserved leaves the reserved ones alone. -/
theorem getElem_set_of_undefinedE (e : Vector Word 32) {d i : Reg} (v : Word) (hd : undefinedE d = false) (hi : undefinedE i = true) :
    (e.set d v)[i] = e[i] := by
  refine getElem_set_of_ne e v fun h => ?_
  rw [← h, hi] at hd
  cases hd

theorem State.keepsReserved_writeE (s : State) (d : Reg) (v : Word) : KeepsReserved s (s.writeE d v) := by
  intro i hi
  unfold State.writeE
  split
  next => rfl
  next hd => exact getElem_set_of_undefinedE s.e _ (by simpa using hd) hi

theorem State.keepsReserved_writeX (s : State) (d : Reg) (v : Word) : KeepsReserved s (s.writeX d v) := by
  unfold State.writeX
  split
  · exact .of_eq rfl
  · exact s.keepsReserved_writeE d v

/-- The registers that an exception entry writes are not reserved. -/
theorem State.keepsReserved_enter (s : State) (k : ExceptionType) (code : Word) (bad : Option Word) :
    KeepsReserved s (s.enter k code bad) := by
  intro i hi
  have hbase : ((s.e.set epcNo s.pc).set ecodeNo code)[i] = s.e[i] := by
    rw [getElem_set_of_undefinedE _ _ (by decide) hi, getElem_set_of_undefinedE _ _ (by decide) hi]
  cases bad with
  | none => exact hbase
  | some a => exact (getElem_set_of_undefinedE _ a (by decide) hi).trans hbase

theorem State.keepsReserved_begun (s : State) : KeepsReserved s s.begun := by
  intro i hi
  cases h : s.irqInputs with
  | nil => rw [State.begun_of_no_input h, State.tick_e]
  | cons v rest =>
    rw [State.begun_of_input h]
    exact getElem_set_of_undefinedE s.e v (by decide) hi

theorem EndsIn.keepsReserved {i : Instr} {s t : State} (h : EndsIn i s t) : KeepsReserved s t := by
  cases h with
  | wrote d v a => exact s.keepsReserved_writeX d v
  | wroteException d v _ => exact s.keepsReserved_writeE d v
  | raised c _ => exact s.keepsReserved_enter _ _ _
  | systemCall imm _ => exact s.keepsReserved_enter _ _ _
  | debuggerCall imm _ => exact s.keepsReserved_enter _ _ _
  | _ => exact .of_eq rfl

/-- Only a store changes memory, and it keeps the canonical form. -/
theorem EndsIn.memory_wf {i : Instr} {s t : State} (h : EndsIn i s t) (hs : s.mem.wf s.addrBits = true) :
    t.mem.wf s.addrBits = true := by
  cases h with
  | stored addr n v _ => exact State.stored_wf hs addr n v
  | wrote d v a => simpa using hs
  | wroteException d v _ => simpa using hs
  | _ => exact hs

/-- What keeps the parameters, the form of memory, and the reserved and undefined places keeps the invariant. -/
theorem State.Inv.of_frame {s t : State} (h : s.Inv) (hp : SameParameters s t) (hmem : t.mem.wf s.addrBits = true)
    (he : KeepsReserved s t) (hc : ∀ i : Reg, s.undefinedC i = true → t.c[i] = s.c[i]) : t.Inv := by
  obtain ⟨-, hreserved, hundefined⟩ := h
  obtain ⟨hbits, -, himpl, -⟩ := hp
  refine ⟨by rwa [hbits], fun i hi => (he i hi).trans (hreserved i hi), fun i hi => ?_⟩
  have hi' : s.undefinedC i = true := by rwa [State.undefinedC, himpl] at hi
  exact (hc i hi').trans (hundefined i hi')

/-- The same with the counters untouched, as in all of a step but its start. -/
theorem State.Inv.of_sameRest {s t : State} (h : s.Inv) (hrest : SameRest s t) (hmem : t.mem.wf s.addrBits = true)
    (he : KeepsReserved s t) : t.Inv := by
  obtain ⟨hc, -, hp, -⟩ := hrest
  exact h.of_frame hp hmem he fun i _ => by rw [hc]

theorem State.Inv.begun {s : State} (h : s.Inv) : s.begun.Inv := by
  have hmem : s.begun.mem.wf s.addrBits = true := by
    rw [State.begun_mem]
    exact h.1
  refine h.of_frame s.sameParameters_begun hmem s.keepsReserved_begun fun i hi => ?_
  rw [State.begun, State.sampleInts_c, State.tick_getElem, State.countOf, State.counts_undefined s i hi]
  rfl

theorem State.Inv.enter {s : State} (h : s.Inv) (k : ExceptionType) (code : Word) (bad : Option Word) : (s.enter k code bad).Inv :=
  h.of_sameRest (s.sameRest_enter k code bad) h.1 (s.keepsReserved_enter k code bad)

theorem State.Inv.endsIn {i : Instr} {s t : State} (h : s.Inv) (ht : EndsIn i s t) : t.Inv :=
  h.of_sameRest ht.sameRest (ht.memory_wf h.1) ht.keepsReserved

/-- Settles O7: the start of a step keeps the invariant, and so does each of the three things a step can do after it. -/
theorem stepKeepsInvariant : Obligations.StepKeepsInvariant := by
  intro s t hinv h
  obtain ⟨k, -, rfl⟩ | ⟨c, rfl⟩ | ⟨i, hi⟩ := step_next h
  · exact hinv.begun.enter _ _ _
  · exact hinv.begun.enter _ _ _
  · exact hinv.begun.endsIn (exec_endsIn hi)

/-! ### Reset and the reserved registers -/

theorem undefinedE_iff (i : Reg) : undefinedE i = true ↔ 8 ≤ i.val ∧ i.val ≤ 15 ∨ 21 ≤ i.val ∧ i.val ≤ 29 := decide_eq_true_iff

theorem State.readE_of_undefinedE (s : State) {i : Reg} (h : undefinedE i = true) : s.readE i = 0 := by simp [State.readE, h]

theorem State.writeE_of_undefinedE (s : State) {i : Reg} (v : Word) (h : undefinedE i = true) : s.writeE i v = s := by
  simp [State.writeE, h]

theorem State.readE_of_defined (s : State) {i : Reg} (h : undefinedE i = false) : s.readE i = s.e[i] := by simp [State.readE, h]

theorem State.writeE_of_defined (s : State) {i : Reg} (v : Word) (h : undefinedE i = false) (hi : i ≠ intsNo) :
    s.writeE i v = { s with e := s.e.set i v } := by
  simp [State.writeE, writtenE, h, hi]

/-- Settles O60: the reserved numbers, the others, and the two ways by which instructions reach them. -/
theorem reservedExceptionRegisters : Obligations.ReservedExceptionRegisters := by
  intro s i j v
  simp only [← undefinedE_iff, Bool.not_eq_true]
  refine ⟨fun h => ⟨s.readE_of_undefinedE h, s.writeE_of_undefinedE v h⟩,
    fun h => ⟨s.readE_of_defined h, fun hi => s.writeE_of_defined v h fun he => hi (congrArg Fin.val he)⟩,
    fun hl => ⟨State.readX_of_above_user hl i, State.writeX_of_above_user hl i v, ?_, ?_, ?_⟩⟩
  · exact congrArg Host.Outcome.next (State.privileged_of_above_user hl _)
  · exact congrArg Host.Outcome.next (State.privileged_of_above_user hl _)
  · exact congrArg Host.Outcome.next (State.privileged_of_above_user hl _)

@[simp] theorem State.resetAt_readR (addr : BitVec 62) (level : BitVec 2) (intm : Word) (i : Reg) :
    (State.resetAt addr level intm).readR i = 0 := by
  simp [State.resetAt, State.readR]

@[simp] theorem State.resetAt_readC (addr : BitVec 62) (level : BitVec 2) (intm : Word) (i : Reg) :
    (State.resetAt addr level intm).readC i = 0 := by
  simp [State.resetAt, State.readC]

/-- After reset INTM holds its parameter and every other exception register 0 (R500). -/
theorem State.resetAt_readE (addr : BitVec 62) (level : BitVec 2) (intm : Word) (i : Reg) :
    (State.resetAt addr level intm).readE i = if i = 20 then intm else 0 := by
  by_cases hi : i = 20
  · subst hi
    have hdefined : undefinedE 20 = false := by decide
    simp [State.readE, State.resetAt, hdefined]
  · have hzero : (State.resetAt addr level intm).e[i] = 0 :=
      (getElem_set_of_ne _ intm hi).trans (Vector.getElem_replicate _)
    simp [State.readE, hzero, hi]

theorem State.reset_readE (i : Reg) : State.reset.readE i = 0 := by
  simp [State.reset, State.resetAt_readE, Config.resetIntm]

/-- Settles O9: the registers by the lemmas above, the parameters as their defaults say. -/
theorem stateAfterReset : Obligations.StateAfterReset := by
  refine ⟨fun i => State.resetAt_readC _ _ _ i, fun i _ => State.reset_readE i, rfl, State.reset_readE 20, fun _ => rfl, rfl, rfl, rfl,
    rfl, rfl, byteNo_default, rfl, fun i => ?_, rfl, fun _ _ _ => rfl, rfl,
    fun i => ⟨State.resetAt_readR _ _ _ i, State.reset_readE i⟩, fun addr level intm => ⟨rfl, ?_⟩⟩
  · exact Vector.getElem_replicate _
  · simp [State.resetAt_readE]

end Sys2Proof.Machine

/-! SUPPORT. What the instructions do with memory: only a store changes it, an instruction word stands in it least significant
byte first, and when a load or a store raises an exception instead (20_memory.md). -/

namespace Sys2Proof

/-! ### The bytes of an instruction word (R62, R63) -/

theorem leBytes_four (w : BitVec 32) :
    leBytes 4 w.toNat = [w.extractLsb' 0 8, w.extractLsb' 8 8, w.extractLsb' 16 8, w.extractLsb' 24 8] := by
  have hbyte (k : Nat) : BitVec.ofNat 8 (w.toNat / 256 ^ k) = w.extractLsb' (8 * k) 8 := Machine.byte_eq_extract (n := 4) w k
  rw [← hbyte 0, ← hbyte 1, ← hbyte 2, ← hbyte 3]
  simp [leBytes, Nat.div_div_eq_div_mul]

theorem ofNat_leNat_leBytes_four (w : BitVec 32) : BitVec.ofNat 32 (leNat (leBytes 4 w.toNat)) = w := by
  have hlt : w.toNat < 256 ^ 4 := w.isLt
  rw [Machine.leNat_leBytes, Nat.mod_eq_of_lt hlt, BitVec.ofNat_toNat, BitVec.setWidth_eq]

/-- The decoder on bytes takes the first four as a word and leaves the rest (R63, R90). -/
theorem decodeBytes_cons_four {nop : Config.NopCode} {b₀ b₁ b₂ b₃ : Byte} {i : Instr}
    (h : decode nop (BitVec.ofNat 32 (leNat [b₀, b₁, b₂, b₃])) = .ok i) (rest : List Byte) :
    decodeBytes nop (b₀ :: b₁ :: b₂ :: b₃ :: rest) = .ok (i, rest) := by
  simp only [decodeBytes, h]

/-- Settles O3: the number that the four bytes of a word stand for is the word. -/
theorem bytesOfAWord : Obligations.BytesOfAWord := by
  intro nop w i rest h
  refine decodeBytes_cons_four ?_ rest
  rwa [← leBytes_four, ofNat_leNat_leBytes_four]

end Sys2Proof

namespace Sys2Proof.Machine

open Sys2Proof

/-! ### Only a store changes memory -/

theorem EndsIn.mem_eq {i : Instr} {s t : State} (h : EndsIn i s t) (hi : storesMemory i = false) : t.mem = s.mem := by
  cases h with
  | stored addr n v hstore => simp [hi] at hstore
  | wrote d v a => simp
  | wroteException d v _ => simp
  | _ => rfl

/-- Settles O19: of the ways in which an instruction ends, only the store writes memory. -/
theorem onlyStoresWriteMemory : Obligations.OnlyStoresWriteMemory :=
  fun _ _ _ hi h a => congrArg (Memory.read · a) ((exec_endsIn h).mem_eq hi)

/-! ### When the access primitives raise an exception (R66, R69) -/

theorem aligned_eq_true {addr : Word} {n : Nat} (h : addr.toNat % n = 0) : aligned addr n = true := decide_eq_true h

theorem aligned_eq_false {addr : Word} {n : Nat} (h : addr.toNat % n ≠ 0) : aligned addr n = false := decide_eq_false h

theorem aligned_one (addr : Word) : aligned addr 1 = true := aligned_eq_true (Nat.mod_one _)

theorem State.memRead_misaligned (s : State) {addr : Word} {n : Nat} (h : addr.toNat % n ≠ 0) :
    s.memRead addr n = .trap (.misaligned addr) := by
  simp [State.memRead, aligned_eq_false h]

theorem State.memWrite_misaligned (s : State) {addr : Word} {n : Nat} (v : BitVec (8 * n)) (h : addr.toNat % n ≠ 0) :
    s.memWrite addr n v = .trap (.misaligned addr) := by
  simp [State.memWrite, aligned_eq_false h]

theorem State.memRead_refused {s : State} {addr : Word} {n : Nat} (ha : addr.toNat % n = 0)
    (hp : s.accessOk .load addr n = false) : s.memRead addr n = .trap (.illegalLoad addr) := by
  simp [State.memRead, aligned_eq_true ha, hp]

theorem State.memWrite_refused {s : State} {addr : Word} {n : Nat} (v : BitVec (8 * n)) (ha : addr.toNat % n = 0)
    (hp : s.accessOk .store addr n = false) : s.memWrite addr n v = .trap (.illegalStore addr) := by
  simp [State.memWrite, aligned_eq_true ha, hp]

/-- `MemRead` raises Misaligned at no aligned address. -/
theorem State.memRead_ne_misaligned (s : State) {addr : Word} {n : Nat} (ha : aligned addr n = true) :
    s.memRead addr n ≠ .trap (.misaligned addr) := by
  obtain ⟨hm, -⟩ | ⟨-, -, h⟩ | ⟨-, -, ⟨-, h⟩ | ⟨bs, -, h⟩⟩ := s.memRead_cases addr n
  · simp [ha] at hm
  all_goals simp [h]

/-- `MemWrite` raises Misaligned at no aligned address. -/
theorem State.memWrite_ne_misaligned (s : State) {addr : Word} {n : Nat} (v : BitVec (8 * n)) (ha : aligned addr n = true) :
    s.memWrite addr n v ≠ .trap (.misaligned addr) := by
  obtain ⟨hm, -⟩ | ⟨-, -, h⟩ | ⟨-, -, h⟩ := s.memWrite_cases addr n v
  · simp [ha] at hm
  all_goals simp [h]

/-! ### Which access each memory instruction makes (R180, R183) -/

/-- The instruction `i` makes one access of `n` bytes at `addr` before anything else, and goes on with what that answers. -/
inductive Accesses (i : Instr) (s : State) (addr : Word) (n : Nat) : AccessKind → Prop
  | load (k : BitVec (8 * n) → Attempt State) (h : exec i s = finish s ((s.memRead addr n).bind k)) : Accesses i s addr n .load
  | store (v : BitVec (8 * n)) (k : State → Attempt State) (h : exec i s = finish s ((s.memWrite addr n v).bind k)) :
    Accesses i s addr n .store

/-- The loads with a displacement, with their sizes (R185 to R192). -/
def displacedLoads : List ((Reg → Reg → BitVec 12 → Instr) × Nat) :=
  [(.lbu, 1), (.lhu, 2), (.lwu, 4), (.ldu, 8), (.lb, 1), (.lh, 2), (.lw, 4), (.ld, 8)]

/-- The loads with a scaled index, with their sizes (R197 to R204). -/
def indexedLoads : List ((Reg → Reg → Nat → Reg → Instr) × Nat) :=
  [(.lbuX, 1), (.lhuX, 2), (.lwuX, 4), (.lduX, 8), (.lbX, 1), (.lhX, 2), (.lwX, 4), (.ldX, 8)]

/-- The stores with a displacement, with their sizes (R193 to R196). -/
def displacedStores : List ((Reg → Reg → BitVec 12 → Instr) × Nat) := [(.sb, 1), (.sh, 2), (.sw, 4), (.sd, 8)]

/-- The stores with a scaled index, with their sizes (R205 to R208). -/
def indexedStores : List ((Reg → Reg → Nat → Reg → Instr) × Nat) := [(.sbX, 1), (.shX, 2), (.swX, 4), (.sdX, 8)]

theorem accesses_displacedLoads : ∀ p ∈ displacedLoads, ∀ (s : State) (a b : Reg) (imm : BitVec 12),
    Accesses (p.1 a b imm) s (s.readX a + imm.signExtend 64) p.2 .load := by
  intro p hp s a b imm
  fin_cases hp <;> exact .load _ rfl

theorem accesses_indexedLoads : ∀ p ∈ indexedLoads, ∀ (s : State) (a b d : Reg) (sc : Nat),
    Accesses (p.1 a b sc d) s (s.readX a + s.readX b <<< sc) p.2 .load := by
  intro p hp s a b d sc
  fin_cases hp <;> exact .load _ rfl

theorem accesses_displacedStores : ∀ p ∈ displacedStores, ∀ (s : State) (a b : Reg) (imm : BitVec 12),
    Accesses (p.1 a b imm) s (s.readX a + imm.signExtend 64) p.2 .store := by
  intro p hp s a b imm
  fin_cases hp <;> exact .store _ _ rfl

theorem accesses_indexedStores : ∀ p ∈ indexedStores, ∀ (s : State) (a b c : Reg) (sc : Nat),
    Accesses (p.1 a b sc c) s (s.readX a + s.readX b <<< sc) p.2 .store := by
  intro p hp s a b c sc
  fin_cases hp <;> exact .store _ _ rfl

/-! ### The exception of an access is that of its instruction (R455, R470) -/

theorem completes_raised {i : Instr} {s : State} {c : SyncCause} {α : Type} {x : Attempt α} {k : α → Attempt State}
    (h : exec i s = finish s (x.bind k)) (hx : x = .trap c) : Completes i s (Raised s c.code c.badAddr) := by
  subst hx
  exact ⟨s.raise c, h, s.raised_raise c⟩

theorem Accesses.misaligned {i : Instr} {s : State} {addr : Word} {n : Nat} {kind : AccessKind} (hi : Accesses i s addr n kind)
    (h : addr.toNat % n ≠ 0) : Completes i s (Raised s 2 (some addr)) := by
  cases hi with
  | load k hk => exact completes_raised hk (s.memRead_misaligned h)
  | store v k hk => exact completes_raised hk (s.memWrite_misaligned v h)

theorem Accesses.load_refused {i : Instr} {s : State} {addr : Word} {n : Nat} (hi : Accesses i s addr n .load)
    (ha : addr.toNat % n = 0) (hp : s.accessOk .load addr n = false) : Completes i s (Raised s 4 (some addr)) := by
  cases hi with
  | load k hk => exact completes_raised hk (State.memRead_refused ha hp)

theorem Accesses.store_refused {i : Instr} {s : State} {addr : Word} {n : Nat} (hi : Accesses i s addr n .store)
    (ha : addr.toNat % n = 0) (hp : s.accessOk .store addr n = false) : Completes i s (Raised s 5 (some addr)) := by
  cases hi with
  | store v k hk => exact completes_raised hk (State.memWrite_refused v ha hp)

/-- Settles O26: each instruction listed is a load or a store of the tables above, and its access comes first. -/
theorem misalignedAccessesTrap : Obligations.MisalignedAccessesTrap := by
  refine ⟨fun p hp s a b imm h => ?_, fun p hp s a b c sc _ h => ?_,
    fun s addr n _ h => ⟨s.memRead_misaligned h, fun v => s.memWrite_misaligned v h⟩,
    fun s addr => ⟨s.memRead_ne_misaligned (aligned_one addr), fun v => s.memWrite_ne_misaligned v (aligned_one addr)⟩⟩
  · have hlisted : p ∈ displacedLoads ∨ p ∈ displacedStores := by
      simp only [displacedLoads, displacedStores, List.mem_cons] at hp ⊢
      tauto
    obtain hload | hstore := hlisted
    · exact (accesses_displacedLoads p hload s a b imm).misaligned h
    · exact (accesses_displacedStores p hstore s a b imm).misaligned h
  · have hlisted : p ∈ indexedLoads ∨ p ∈ indexedStores := by
      simp only [indexedLoads, indexedStores, List.mem_cons] at hp ⊢
      tauto
    obtain hload | hstore := hlisted
    · exact (accesses_indexedLoads p hload s a b c sc).misaligned h
    · exact (accesses_indexedStores p hstore s a b c sc).misaligned h

/-- Settles O27: at an aligned address only the permission is left to refuse the access. -/
theorem refusedAccessesTrap : Obligations.RefusedAccessesTrap :=
  ⟨fun p hp s a b imm => (accesses_displacedLoads p hp s a b imm).load_refused,
    fun p hp s a b d sc _ => (accesses_indexedLoads p hp s a b d sc).load_refused,
    fun p hp s a b imm => (accesses_displacedStores p hp s a b imm).store_refused,
    fun p hp s a b c sc _ => (accesses_indexedStores p hp s a b c sc).store_refused⟩

end Sys2Proof.Machine

/-! SUPPORT. The decoder and the encoder: that they agree, what the tables of the decoder answer, and which fields they read
(30_encoding.md). -/

namespace Sys2Proof

/-! ### The amounts that are no bit vectors (R106) -/

theorem scaleFits_iff {sc : Nat} : scaleFits sc = true ↔ sc < 4 := decide_eq_true_iff

theorem amountFits_iff {n : Nat} : amountFits n = true ↔ n < 64 := decide_eq_true_iff

theorem amountsFit_iff {l r : Nat} : (amountFits l && amountFits r) = true ↔ l < 64 ∧ r < 64 := by
  simp only [Bool.and_eq_true, amountFits_iff]

theorem addShiftFits_iff {n : Nat} : addShiftFits n = true ↔ n < 16 := decide_eq_true_iff

/-! ### The decoder reads back what the encoder wrote -/

/-- A word with an opcode that some table defines goes to the opcode table, whatever `OP_NOP` is (R97). -/
theorem decode_defined (nop : Config.NopCode) {w : BitVec 32} {op : BitVec 6} (h : fieldOp w = op) (hop : op ∉ Config.freeOpcodes) :
    decode nop w = decodeOpcode w :=
  decode_of_ne (h ▸ ne_nopCode nop hop)

/-- Settles O1: by the table that reads the instruction, one group of constructors for each; the fields come back by the lemmas on
the formats, and the amounts that are no bit vectors because they fit (R106). -/
theorem encodeThenDecode : Obligations.EncodeThenDecode := by
  intro nop i hwf
  cases i with
  | nop =>
    exact (decode_nop (fieldOp_formatJ ..)).trans (by simp)
  | j | jal =>
    exact (decode_defined nop (fieldOp_formatJ ..) (by decide)).trans (by simp [decodeOpcode])
  | beq | bne | blt | bge | bltu | bgeu | loop | loopd | jr | jalr =>
    exact (decode_defined nop (fieldOp_formatB ..) (by decide)).trans (by simp [decodeOpcode])
  | beqi | bnei | blti | bgei | bltui | bgeui =>
    exact (decode_defined nop (fieldOp_formatBI ..) (by decide)).trans (by simp [decodeOpcode])
  | lbu | lhu | lwu | ldu | lb | lh | lw | ld =>
    exact (decode_load nop (fieldOp_formatI ..)).trans (by simp [decodeLoad])
  | sb | sh | sw | sd =>
    exact (decode_store nop (fieldOp_formatI ..)).trans (by simp [decodeStore])
  | lbuX | lhuX | lwuX | lduX | lbX | lhX | lwX | ldX =>
    exact (decode_loadX nop (fieldOp_formatR ..)).trans (by simp [decodeLoadX, Nat.mod_eq_of_lt (scaleFits_iff.1 hwf)])
  | sbX | shX | swX | sdX =>
    exact (decode_storX nop (fieldOp_formatR ..)).trans (by simp [decodeStorX, Nat.mod_eq_of_lt (scaleFits_iff.1 hwf)])
  | addI | naddI | andI | candI | orI | corI | xorI | setI | eqI | neI | ltI | geI | ltuI | geuI | minI | maxI =>
    exact (decode_alui nop (fieldOp_formatI ..)).trans (by simp [decodeAlui])
  | addI1 | naddI1 | andI1 | candI1 | orI1 | corI1 | xorI1 | setI1 | eqI1 | neI1 | ltI1 | geI1 | ltuI1 | geuI1 | minI1 | maxI1 =>
    exact (decode_alui1 nop (fieldOp_formatI ..)).trans (by simp [decodeAlui1])
  | addI2 | naddI2 | andI2 | candI2 | orI2 | corI2 | xorI2 | setI2 | eqI2 | neI2 | ltI2 | geI2 | ltuI2 | geuI2 | minI2 | maxI2 =>
    exact (decode_alui2 nop (fieldOp_formatI ..)).trans (by simp [decodeAlui2])
  | addI3 | naddI3 | andI3 | candI3 | orI3 | corI3 | xorI3 | setI3 | eqI3 | neI3 | ltI3 | geI3 | ltuI3 | geuI3 | minI3 | maxI3 =>
    exact (decode_alui3 nop (fieldOp_formatI ..)).trans (by simp [decodeAlui3])
  | retAdd | retNadd | retAnd | retCand | retOr | retCor | retXor | retSet | retEq | retNe | retLt | retGe | retLtu | retGeu |
      retMin | retMax =>
    exact (decode_ret nop (fieldOp_formatI ..)).trans (by simp [decodeRet])
  | shlr | shlr1 | salr =>
    obtain ⟨hl, hr⟩ := amountsFit_iff.1 hwf
    exact (decode_shift nop (fieldOp_formatShift ..)).trans (by simp [decodeShift, Nat.mod_eq_of_lt hl, Nat.mod_eq_of_lt hr])
  | rorI =>
    exact (decode_shift nop (fieldOp_formatShift ..)).trans (by simp [decodeShift, Nat.mod_eq_of_lt (amountFits_iff.1 hwf)])
  | mulI | divI | modI | divuI | moduI =>
    exact (decode_shift nop (fieldOp_formatI ..)).trans (by simp [decodeShift])
  | add | nadd | and | cand | or | cor | xor | xnor | eq | ne | lt | ge | ltu | geu | min | max =>
    exact (decode_alu nop (fieldOp_formatR ..)).trans (by simp [decodeAlu, decodeAlux0])
  | shl | shr | sar | ror | mul | div | mod | divu | modu =>
    exact (decode_alu nop (fieldOp_formatR ..)).trans (by simp [decodeAlu, decodeAlux1])
  | adds | nadds =>
    exact (decode_alu nop (fieldOp_formatR ..)).trans (by simp [decodeAlu, Nat.mod_eq_of_lt (addShiftFits_iff.1 hwf)])
  | add3 | nadd3 | and3 | cand3 | or3 | cor3 | xor3 | xnor3 =>
    exact (decode_alu3 nop (fieldOp_formatR ..)).trans (by simp [decodeAlu3, decodeAlu3x0])
  | andeq | andne | andlt | andge | andltu | andgeu | minu3 | maxu3 | oreq | orne | orlt | orge | orltu | orgeu | min3 | max3 =>
    exact (decode_alu3 nop (fieldOp_formatR ..)).trans (by simp [decodeAlu3, decodeAlu3x1])
  | sel | seln | selp | madd | nmadd =>
    exact (decode_alu3 nop (fieldOp_formatR ..)).trans (by simp [decodeAlu3, decodeAlu3x2])
  | absS | negS | sqrtS | cvtSD | cvtSI | cvtIS | rintS =>
    exact (decode_fpu1 nop (fieldOp_formatFP ..)).trans (by simp [decodeFpu1, decodeFpu1p0])
  | absD | negD | sqrtD | cvtDS | cvtDI | cvtID | rintD =>
    exact (decode_fpu1 nop (fieldOp_formatFP ..)).trans (by simp [decodeFpu1, decodeFpu1p1])
  | eqS | neS | ltS | geS | infS | nanS | addS | naddS | mulS | divS | minS | maxS =>
    exact (decode_fpu2 nop (fieldOp_formatFP ..)).trans (by simp [decodeFpu2, decodeFpu2p0])
  | eqD | neD | ltD | geD | infD | nanD | addD | naddD | mulD | divD | minD | maxD =>
    exact (decode_fpu2 nop (fieldOp_formatFP ..)).trans (by simp [decodeFpu2, decodeFpu2p1])
  | andeqS | andneS | andltS | andgeS | oreqS | orneS | orltS | orgeS | add3S | nadd3S | maddS | nmaddS | min3S | max3S =>
    exact (decode_fpu3 nop (fieldOp_formatFP ..)).trans (by simp [decodeFpu3, decodeFpu3p0])
  | andeqD | andneD | andltD | andgeD | oreqD | orneD | orltD | orgeD | add3D | nadd3D | maddD | nmaddD | min3D | max3D =>
    exact (decode_fpu3 nop (fieldOp_formatFP ..)).trans (by simp [decodeFpu3, decodeFpu3p1])
  | scall | dcall | sret =>
    exact (decode_sys nop (fieldOp_formatI ..)).trans (by simp [decodeSys])
  | movrc | movec | mover | movre =>
    exact (decode_mov nop (fieldOp_formatR ..)).trans (by simp [decodeMov])

/-! ### What each table of the decoder answers (R109 to R119) -/

/-- An answer of a table: if the function code is `listed`, a well-formed instruction, and if it is not, the refusal `e`. -/
inductive TableAnswer (listed : Prop) (e : DecodeError) : Except DecodeError Instr → Prop
  | reads {i : Instr} (hl : listed) (hi : i.WellFormed) : TableAnswer listed e (.ok i)
  | refuses (hl : ¬listed) : TableAnswer listed e (.error e)

/-- The name of an undefined function code in f and x. -/
def refusalFX (w : BitVec 32) : DecodeError := .undefinedFunction (fieldOp w).toNat (fieldF w).toNat (fieldX w).toNat

/-- The name of an undefined floating-point function code in f and p. -/
def refusalFP (w : BitVec 32) : DecodeError := .undefinedFunction (fieldOp w).toNat (fieldFpF w).toNat (fieldP w).toNat

theorem TableAnswer.refusesFX {listed : Prop} {w : BitVec 32} (h : ¬listed) : TableAnswer listed (refusalFX w) (undefinedFX w) :=
  .refuses h

theorem TableAnswer.refusesFP {listed : Prop} {w : BitVec 32} (h : ¬listed) : TableAnswer listed (refusalFP w) (undefinedFP w) :=
  .refuses h

/-- An answer of a smaller table is one of the table that holds it, where both list the same codes. -/
theorem TableAnswer.of_iff {p q : Prop} {e : DecodeError} {x : Except DecodeError Instr} (h : TableAnswer p e x) (hpq : p ↔ q) :
    TableAnswer q e x :=
  propext hpq ▸ h

/-- A code that is not listed is refused. -/
theorem TableAnswer.refused {listed : Prop} {e : DecodeError} {x : Except DecodeError Instr} (h : TableAnswer listed e x)
    (hl : ¬listed) : x = .error e := by
  cases h with
  | reads hl' => exact absurd hl' hl
  | refuses => rfl

/-- What a decoder answers is well formed, if it is an instruction. -/
def ReadsWellFormed (x : Except DecodeError Instr) : Prop := ∀ i, x = .ok i → i.WellFormed

theorem readsWellFormed_ok {i : Instr} (hi : i.WellFormed) : ReadsWellFormed (.ok i) := by
  rintro _ ⟨⟩
  exact hi

theorem readsWellFormed_error (e : DecodeError) : ReadsWellFormed (.error e) := nofun

theorem TableAnswer.readsWellFormed {listed : Prop} {e : DecodeError} {x : Except DecodeError Instr} (h : TableAnswer listed e x) :
    ReadsWellFormed x := by
  cases h with
  | reads _ hi => exact readsWellFormed_ok hi
  | refuses => exact readsWellFormed_error e

theorem scaleFits_toNat (x : BitVec 2) : scaleFits x.toNat = true := scaleFits_iff.2 x.isLt

theorem amountsFit_toNat (l r : BitVec 6) : (amountFits l.toNat && amountFits r.toNat) = true := amountsFit_iff.2 ⟨l.isLt, r.isLt⟩

theorem addShiftFits_toNat (f : BitVec 4) : addShiftFits f.toNat = true := addShiftFits_iff.2 f.isLt

theorem decodeLoad_answer (w : BitVec 32) :
    TableAnswer ((fieldF w).toNat < 8) (refusalFX w) (decodeLoad w) := by
  unfold decodeLoad
  split
  case h_9 => exact .refusesFX (by simp only [imp_false] at *; omega)
  all_goals exact .reads (by omega) rfl

theorem decodeStore_answer (w : BitVec 32) :
    TableAnswer ((fieldF w).toNat < 4) (refusalFX w) (decodeStore w) := by
  unfold decodeStore
  split
  case h_5 => exact .refusesFX (by simp only [imp_false] at *; omega)
  all_goals exact .reads (by omega) rfl

theorem decodeLoadX_answer (w : BitVec 32) :
    TableAnswer ((fieldF w).toNat < 8) (refusalFX w) (decodeLoadX w) := by
  unfold decodeLoadX
  split
  case h_9 => exact .refusesFX (by simp only [imp_false] at *; omega)
  all_goals exact .reads (by omega) (scaleFits_toNat _)

theorem decodeStorX_answer (w : BitVec 32) :
    TableAnswer ((fieldF w).toNat < 4) (refusalFX w) (decodeStorX w) := by
  unfold decodeStorX
  split
  case h_5 => exact .refusesFX (by simp only [imp_false] at *; omega)
  all_goals exact .reads (by omega) (scaleFits_toNat _)

theorem decodeAlui_answer (w : BitVec 32) :
    TableAnswer ((fieldF w).toNat < 16) (refusalFX w) (decodeAlui w) := by
  unfold decodeAlui
  split
  case h_17 => exact .refusesFX (by simp only [imp_false] at *; omega)
  all_goals exact .reads (by omega) rfl

theorem decodeAlui1_answer (w : BitVec 32) :
    TableAnswer ((fieldF w).toNat < 16) (refusalFX w) (decodeAlui1 w) := by
  unfold decodeAlui1
  split
  case h_17 => exact .refusesFX (by simp only [imp_false] at *; omega)
  all_goals exact .reads (by omega) rfl

theorem decodeAlui2_answer (w : BitVec 32) :
    TableAnswer ((fieldF w).toNat < 16) (refusalFX w) (decodeAlui2 w) := by
  unfold decodeAlui2
  split
  case h_17 => exact .refusesFX (by simp only [imp_false] at *; omega)
  all_goals exact .reads (by omega) rfl

theorem decodeAlui3_answer (w : BitVec 32) :
    TableAnswer ((fieldF w).toNat < 16) (refusalFX w) (decodeAlui3 w) := by
  unfold decodeAlui3
  split
  case h_17 => exact .refusesFX (by simp only [imp_false] at *; omega)
  all_goals exact .reads (by omega) rfl

theorem decodeRet_answer (w : BitVec 32) :
    TableAnswer ((fieldF w).toNat < 16) (refusalFX w) (decodeRet w) := by
  unfold decodeRet
  split
  case h_17 => exact .refusesFX (by simp only [imp_false] at *; omega)
  all_goals exact .reads (by omega) rfl

theorem decodeShift_answer (w : BitVec 32) :
    TableAnswer ((fieldF w).toNat < 4 ∨ (fieldF w).toNat = 8 ∨ 12 ≤ (fieldF w).toNat) (refusalFX w) (decodeShift w) := by
  unfold decodeShift
  split
  case h_1 | h_2 | h_3 => exact .reads (by omega) (amountsFit_toNat _ _)
  case h_4 => exact .reads (by omega) (amountFits_iff.2 (fieldR w).isLt)
  case h_10 => exact .refusesFX (by simp only [imp_false] at *; omega)
  all_goals exact .reads (by omega) rfl

theorem decodeAlux0_answer (w : BitVec 32) :
    TableAnswer ((fieldF w).toNat < 16) (refusalFX w) (decodeAlux0 w) := by
  unfold decodeAlux0
  split
  case h_17 => exact .refusesFX (by simp only [imp_false] at *; omega)
  all_goals exact .reads (by omega) rfl

theorem decodeAlux1_answer (w : BitVec 32) :
    TableAnswer ((fieldF w).toNat < 4 ∨ (fieldF w).toNat = 8 ∨ 12 ≤ (fieldF w).toNat) (refusalFX w) (decodeAlux1 w) := by
  unfold decodeAlux1
  split
  case h_10 => exact .refusesFX (by simp only [imp_false] at *; omega)
  all_goals exact .reads (by omega) rfl

theorem decodeAlu3x0_answer (w : BitVec 32) :
    TableAnswer ((fieldF w).toNat < 8) (refusalFX w) (decodeAlu3x0 w) := by
  unfold decodeAlu3x0
  split
  case h_9 => exact .refusesFX (by simp only [imp_false] at *; omega)
  all_goals exact .reads (by omega) rfl

theorem decodeAlu3x1_answer (w : BitVec 32) :
    TableAnswer ((fieldF w).toNat < 16) (refusalFX w) (decodeAlu3x1 w) := by
  unfold decodeAlu3x1
  split
  case h_17 => exact .refusesFX (by simp only [imp_false] at *; omega)
  all_goals exact .reads (by omega) rfl

theorem decodeAlu3x2_answer (w : BitVec 32) :
    TableAnswer ((fieldF w).toNat < 6 ∧ (fieldF w).toNat ≠ 3) (refusalFX w) (decodeAlu3x2 w) := by
  unfold decodeAlu3x2
  split
  case h_6 => exact .refusesFX (by simp only [imp_false] at *; omega)
  all_goals exact .reads (by omega) rfl

theorem decodeFpu1p0_answer (w : BitVec 32) :
    TableAnswer ((fieldFpF w).toNat < 8 ∧ (fieldFpF w).toNat ≠ 3) (refusalFP w) (decodeFpu1p0 w) := by
  unfold decodeFpu1p0
  split
  case h_8 => exact .refusesFP (by simp only [imp_false] at *; omega)
  all_goals exact .reads (by omega) rfl

theorem decodeFpu1p1_answer (w : BitVec 32) :
    TableAnswer ((fieldFpF w).toNat < 8 ∧ (fieldFpF w).toNat ≠ 3) (refusalFP w) (decodeFpu1p1 w) := by
  unfold decodeFpu1p1
  split
  case h_8 => exact .refusesFP (by simp only [imp_false] at *; omega)
  all_goals exact .reads (by omega) rfl

theorem decodeFpu2p0_answer (w : BitVec 32) :
    TableAnswer ((fieldFpF w).toNat < 6 ∨ 8 ≤ (fieldFpF w).toNat ∧ (fieldFpF w).toNat < 14) (refusalFP w) (decodeFpu2p0 w) := by
  unfold decodeFpu2p0
  split
  case h_13 => exact .refusesFP (by simp only [imp_false] at *; omega)
  all_goals exact .reads (by omega) rfl

theorem decodeFpu2p1_answer (w : BitVec 32) :
    TableAnswer ((fieldFpF w).toNat < 6 ∨ 8 ≤ (fieldFpF w).toNat ∧ (fieldFpF w).toNat < 14) (refusalFP w) (decodeFpu2p1 w) := by
  unfold decodeFpu2p1
  split
  case h_13 => exact .refusesFP (by simp only [imp_false] at *; omega)
  all_goals exact .reads (by omega) rfl

theorem decodeFpu3p0_answer (w : BitVec 32) :
    TableAnswer ((fieldFpF w).toNat < 14) (refusalFP w) (decodeFpu3p0 w) := by
  unfold decodeFpu3p0
  split
  case h_15 => exact .refusesFP (by simp only [imp_false] at *; omega)
  all_goals exact .reads (by omega) rfl

theorem decodeFpu3p1_answer (w : BitVec 32) :
    TableAnswer ((fieldFpF w).toNat < 14) (refusalFP w) (decodeFpu3p1 w) := by
  unfold decodeFpu3p1
  split
  case h_15 => exact .refusesFP (by simp only [imp_false] at *; omega)
  all_goals exact .reads (by omega) rfl

theorem decodeSys_answer (w : BitVec 32) :
    TableAnswer ((fieldF w).toNat < 3) (refusalFX w) (decodeSys w) := by
  unfold decodeSys
  split
  case h_4 => exact .refusesFX (by simp only [imp_false] at *; omega)
  all_goals exact .reads (by omega) rfl

theorem decodeMov_answer (w : BitVec 32) :
    TableAnswer (((fieldF w).toNat, (fieldX w).toNat) ∈ [(0, 0), (0, 1), (1, 1), (2, 1)]) (refusalFX w) (decodeMov w) := by
  unfold decodeMov
  split
  case h_5 =>
    simp only [imp_false] at *
    exact .refusesFX (by simpa [not_or] using ⟨‹_›, ‹_›, ‹_›, ‹_›⟩)
  all_goals exact .reads (by simp [*]) rfl

theorem decodeAlu_answer (w : BitVec 32) :
    TableAnswer ((fieldX w).toNat = 1 → (fieldF w).toNat < 4 ∨ (fieldF w).toNat = 8 ∨ 12 ≤ (fieldF w).toNat) (refusalFX w)
      (decodeAlu w) := by
  unfold decodeAlu
  split
  case h_1 => exact (decodeAlux0_answer w).of_iff (by omega)
  case h_2 hx => exact (decodeAlux1_answer w).of_iff (by simp [hx])
  case h_3 | h_4 => exact .reads (by omega) (addShiftFits_toNat _)
  case h_5 =>
    simp only [imp_false] at *
    exact absurd (fieldX w).isLt (by omega)

theorem decodeAlu3_answer (w : BitVec 32) :
    TableAnswer ((fieldX w).toNat = 0 ∧ (fieldF w).toNat < 8 ∨ (fieldX w).toNat = 1 ∨
      (fieldX w).toNat = 2 ∧ (fieldF w).toNat < 6 ∧ (fieldF w).toNat ≠ 3) (refusalFX w) (decodeAlu3 w) := by
  unfold decodeAlu3
  split
  case h_1 => exact (decodeAlu3x0_answer w).of_iff (by omega)
  case h_2 => exact (decodeAlu3x1_answer w).of_iff (by omega)
  case h_3 => exact (decodeAlu3x2_answer w).of_iff (by omega)
  case h_4 => exact .refusesFX (by simp only [imp_false] at *; omega)

theorem decodeFpu1_answer (w : BitVec 32) :
    TableAnswer ((fieldFpF w).toNat < 8 ∧ (fieldFpF w).toNat ≠ 3) (refusalFP w) (decodeFpu1 w) := by
  unfold decodeFpu1
  split
  · exact decodeFpu1p0_answer w
  · exact decodeFpu1p1_answer w

theorem decodeFpu2_answer (w : BitVec 32) :
    TableAnswer ((fieldFpF w).toNat < 6 ∨ 8 ≤ (fieldFpF w).toNat ∧ (fieldFpF w).toNat < 14) (refusalFP w) (decodeFpu2 w) := by
  unfold decodeFpu2
  split
  · exact decodeFpu2p0_answer w
  · exact decodeFpu2p1_answer w

theorem decodeFpu3_answer (w : BitVec 32) : TableAnswer ((fieldFpF w).toNat < 14) (refusalFP w) (decodeFpu3 w) := by
  unfold decodeFpu3
  split
  · exact decodeFpu3p0_answer w
  · exact decodeFpu3p1_answer w

/-! ### What is decoded is well formed (R106, R124) -/

theorem decodeOpcode_readsWellFormed (w : BitVec 32) : ReadsWellFormed (decodeOpcode w) := by
  unfold decodeOpcode
  split
  case h_19 => exact (decodeLoad_answer w).readsWellFormed
  case h_20 => exact (decodeStore_answer w).readsWellFormed
  case h_21 => exact (decodeLoadX_answer w).readsWellFormed
  case h_22 => exact (decodeStorX_answer w).readsWellFormed
  case h_23 => exact (decodeAlui_answer w).readsWellFormed
  case h_24 => exact (decodeAlui1_answer w).readsWellFormed
  case h_25 => exact (decodeAlui2_answer w).readsWellFormed
  case h_26 => exact (decodeAlui3_answer w).readsWellFormed
  case h_27 => exact (decodeRet_answer w).readsWellFormed
  case h_28 => exact (decodeShift_answer w).readsWellFormed
  case h_29 => exact (decodeAlu_answer w).readsWellFormed
  case h_30 => exact (decodeAlu3_answer w).readsWellFormed
  case h_31 => exact (decodeFpu1_answer w).readsWellFormed
  case h_32 => exact (decodeFpu2_answer w).readsWellFormed
  case h_33 => exact (decodeFpu3_answer w).readsWellFormed
  case h_34 => exact (decodeSys_answer w).readsWellFormed
  case h_35 => exact (decodeMov_answer w).readsWellFormed
  case h_36 => exact readsWellFormed_error _
  all_goals exact readsWellFormed_ok rfl

/-- Settles O2: NOP is well formed, and so is what the opcode table reads. -/
theorem decodedIsWellFormed : Obligations.DecodedIsWellFormed := by
  intro nop w i h
  by_cases hop : fieldOp w = nop.code
  · exact readsWellFormed_ok rfl i ((decode_nop hop).symm.trans h)
  · exact decodeOpcode_readsWellFormed w i ((decode_of_ne hop).symm.trans h)

/-! ### What is undefined is refused (R97, R120, R121) -/

/-- The opcodes that no table defines, as numbers, are refused by their name (R120). -/
theorem decodeOpcode_of_undefined {w : BitVec 32}
    (h : (fieldOp w).toNat ∈ [0, 1, 4, 5, 6, 7, 28, 29, 30, 31, 38, 39, 45, 46, 47, 48, 49, 50, 51, 52, 53, 54, 55, 56, 57, 58,
      59, 62, 63]) : decodeOpcode w = .error (.undefinedOpcode (fieldOp w).toNat) := by
  rw [decodeOpcode]
  generalize (fieldOp w).toNat = op at h
  fin_cases h <;> rfl

theorem fieldOp_of_toNat {w : BitVec 32} {op : BitVec 6} (h : (w.extractLsb' 26 6).toNat = op.toNat) : fieldOp w = op :=
  BitVec.eq_of_toNat_eq h

/-- Settles O5: an undefined opcode by the opcode table, an undefined function code by what its table lists. -/
theorem undefinedCodesAreRefused : Obligations.UndefinedCodesAreRefused := by
  intro nop w
  rw [← fieldOp, ← fieldF, ← fieldX, ← fieldFpF, ← fieldP]
  refine ⟨fun h hne => (decode_of_ne hne).trans (decodeOpcode_of_undefined h), decode_nop, fun h => ?_, fun h => ?_⟩
  · simp only [List.mem_cons, List.not_mem_nil, or_false] at h
    obtain ⟨hop | hop, hf⟩ | ⟨hop | hop, hf⟩ | ⟨hop, hf⟩ | ⟨hop, hx, hf⟩ | ⟨hop, hfx⟩ | ⟨hop, hf⟩ | ⟨hop, hfx⟩ := h
    · exact (decode_load nop (fieldOp_of_toNat hop)).trans ((decodeLoad_answer w).refused (by omega))
    · exact (decode_loadX nop (fieldOp_of_toNat hop)).trans ((decodeLoadX_answer w).refused (by omega))
    · exact (decode_store nop (fieldOp_of_toNat hop)).trans ((decodeStore_answer w).refused (by omega))
    · exact (decode_storX nop (fieldOp_of_toNat hop)).trans ((decodeStorX_answer w).refused (by omega))
    · exact (decode_shift nop (fieldOp_of_toNat hop)).trans ((decodeShift_answer w).refused (by omega))
    · exact (decode_alu nop (fieldOp_of_toNat hop)).trans ((decodeAlu_answer w).refused (by omega))
    · exact (decode_alu3 nop (fieldOp_of_toNat hop)).trans ((decodeAlu3_answer w).refused (by omega))
    · exact (decode_sys nop (fieldOp_of_toNat hop)).trans ((decodeSys_answer w).refused (by omega))
    · exact (decode_mov nop (fieldOp_of_toNat hop)).trans ((decodeMov_answer w).refused (by simpa using hfx))
  · simp only [List.mem_cons, List.not_mem_nil, or_false] at h
    obtain ⟨hop, hf⟩ | ⟨hop, hf⟩ | ⟨hop, hf⟩ := h
    · exact (decode_fpu1 nop (fieldOp_of_toNat hop)).trans ((decodeFpu1_answer w).refused (by omega))
    · exact (decode_fpu2 nop (fieldOp_of_toNat hop)).trans ((decodeFpu2_answer w).refused (by omega))
    · exact (decode_fpu3 nop (fieldOp_of_toNat hop)).trans ((decodeFpu3_answer w).refused (by omega))

/-! ### Fields that are ignored (R100) -/

/-- Two words that agree under a mask agree in every field whose bits the mask keeps. -/
theorem extract_eq_of_mask {n : Nat} {w v m : BitVec n} (h : w &&& m = v &&& m) {s l : Nat}
    (hm : m.extractLsb' s l = BitVec.allOnes l) : w.extractLsb' s l = v.extractLsb' s l := by
  have hfield := congrArg (BitVec.extractLsb' s l) h
  rwa [BitVec.extractLsb'_and, BitVec.extractLsb'_and, hm, BitVec.and_allOnes, BitVec.and_allOnes] at hfield

/-- The same for a field that names a register. -/
theorem reg_eq_of_mask {n : Nat} {w v m : BitVec n} (h : w &&& m = v &&& m) {s : Nat} (hm : m.extractLsb' s 5 = BitVec.allOnes 5) :
    regOfBits (w.extractLsb' s 5) = regOfBits (v.extractLsb' s 5) :=
  congrArg regOfBits (extract_eq_of_mask h hm)

/-- JR reads no b (R157). -/
theorem decode_jr (nop : Config.NopCode) {w : BitVec 32} (h : fieldOp w = 14) :
    decode nop w = .ok (.jr (fieldA w) (fieldOffset16 w)) := by
  rw [decode_defined nop h (by decide), decodeOpcode, h]; rfl

/-- ROR with an immediate reads no l (D31). -/
theorem decodeShift_ror {w : BitVec 32} (h : fieldF w = 3) : decodeShift w = .ok (.rorI (fieldA w) (fieldB w) (fieldR w).toNat) := by
  rw [decodeShift, h]; rfl

section Congruence

variable {w v : BitVec 32} (hop : fieldOp w = fieldOp v)
include hop

section IntegerFormat

variable (hf : fieldF w = fieldF v) (hx : fieldX w = fieldX v)
include hf hx

theorem undefinedFX_congr : undefinedFX w = undefinedFX v := by
  rw [undefinedFX, undefinedFX, hop, hf, hx]

theorem decodeLoadX_congr (ha : fieldA w = fieldA v) (hb : fieldB w = fieldB v) (hd : fieldD w = fieldD v) :
    decodeLoadX w = decodeLoadX v := by
  simp only [decodeLoadX, undefinedFX_congr hop hf hx, hf, hx, ha, hb, hd]

theorem decodeStorX_congr (ha : fieldA w = fieldA v) (hb : fieldB w = fieldB v) (hc : fieldC w = fieldC v) :
    decodeStorX w = decodeStorX v := by
  simp only [decodeStorX, undefinedFX_congr hop hf hx, hf, hx, ha, hb, hc]

theorem decodeAlu_congr (ha : fieldA w = fieldA v) (hb : fieldB w = fieldB v) (hd : fieldD w = fieldD v) :
    decodeAlu w = decodeAlu v := by
  simp only [decodeAlu, decodeAlux0, decodeAlux1, undefinedFX_congr hop hf hx, hf, hx, ha, hb, hd]

theorem decodeSys_congr (hi : fieldImm12 w = fieldImm12 v) : decodeSys w = decodeSys v := by
  simp only [decodeSys, undefinedFX_congr hop hf hx, hf, hi]

theorem decodeMov_congr (ha : fieldA w = fieldA v) (hd : fieldD w = fieldD v) : decodeMov w = decodeMov v := by
  simp only [decodeMov, undefinedFX_congr hop hf hx, hf, hx, ha, hd]

end IntegerFormat

section FloatFormat

variable (hf : fieldFpF w = fieldFpF v) (hp : fieldP w = fieldP v)
include hf hp

theorem undefinedFP_congr : undefinedFP w = undefinedFP v := by
  rw [undefinedFP, undefinedFP, hop, hf, hp]

theorem decodeFpu1_congr (ha : fieldA w = fieldA v) (hd : fieldD w = fieldD v) : decodeFpu1 w = decodeFpu1 v := by
  simp only [decodeFpu1, decodeFpu1p0, decodeFpu1p1, undefinedFP_congr hop hf hp, hf, hp, ha, hd]

theorem decodeFpu2_congr (ha : fieldA w = fieldA v) (hb : fieldB w = fieldB v) (hd : fieldD w = fieldD v) :
    decodeFpu2 w = decodeFpu2 v := by
  simp only [decodeFpu2, decodeFpu2p0, decodeFpu2p1, undefinedFP_congr hop hf hp, hf, hp, ha, hb, hd]

end FloatFormat

end Congruence

/-- Settles O6: the mask keeps every field that the instruction's table reads. -/
theorem ignoredFieldsDoNotMatter : Obligations.IgnoredFieldsDoNotMatter := by
  intro nop w v
  rw [← fieldOp, ← fieldF]
  refine ⟨fun hw h => ?_, fun hw h => ?_, fun hw h => ?_, fun hw h => ?_, fun hw h => ?_, fun hw hf h => ?_⟩
  all_goals have hop : fieldOp w = fieldOp v := extract_eq_of_mask h (by decide)
  · have ha : fieldA w = fieldA v := reg_eq_of_mask h (by decide)
    have hoff : fieldOffset16 w = fieldOffset16 v := extract_eq_of_mask h (by decide)
    rw [decode_jr nop hw, decode_jr nop (hop ▸ hw), ha, hoff]
  · have ha : fieldA w = fieldA v := reg_eq_of_mask h (by decide)
    have hb : fieldB w = fieldB v := reg_eq_of_mask h (by decide)
    have hd : fieldD w = fieldD v := reg_eq_of_mask h (by decide)
    have hf : fieldF w = fieldF v := extract_eq_of_mask h (by decide)
    have hx : fieldX w = fieldX v := extract_eq_of_mask h (by decide)
    simp only [List.mem_cons, List.not_mem_nil, or_false] at hw
    obtain hw | hw | hw := hw
    · rw [decode_loadX nop (fieldOp_of_toNat hw), decode_loadX nop (hop ▸ fieldOp_of_toNat hw), decodeLoadX_congr hop hf hx ha hb hd]
    · rw [decode_alu nop (fieldOp_of_toNat hw), decode_alu nop (hop ▸ fieldOp_of_toNat hw), decodeAlu_congr hop hf hx ha hb hd]
    · have hfp : fieldFpF w = fieldFpF v := extract_eq_of_mask h (by decide)
      have hp : fieldP w = fieldP v := extract_eq_of_mask h (by decide)
      rw [decode_fpu2 nop (fieldOp_of_toNat hw), decode_fpu2 nop (hop ▸ fieldOp_of_toNat hw), decodeFpu2_congr hop hfp hp ha hb hd]
  · have hc := decodeStorX_congr hop (extract_eq_of_mask h (by decide)) (extract_eq_of_mask h (by decide))
      (reg_eq_of_mask h (by decide)) (reg_eq_of_mask h (by decide)) (reg_eq_of_mask h (by decide))
    rw [decode_storX nop hw, decode_storX nop (hop ▸ hw), hc]
  · have ha : fieldA w = fieldA v := reg_eq_of_mask h (by decide)
    have hd : fieldD w = fieldD v := reg_eq_of_mask h (by decide)
    simp only [List.mem_cons, List.not_mem_nil, or_false] at hw
    obtain hw | hw := hw
    · have hc := decodeFpu1_congr hop (extract_eq_of_mask h (by decide)) (extract_eq_of_mask h (by decide)) ha hd
      rw [decode_fpu1 nop (fieldOp_of_toNat hw), decode_fpu1 nop (hop ▸ fieldOp_of_toNat hw), hc]
    · have hc := decodeMov_congr hop (extract_eq_of_mask h (by decide)) (extract_eq_of_mask h (by decide)) ha hd
      rw [decode_mov nop (fieldOp_of_toNat hw), decode_mov nop (hop ▸ fieldOp_of_toNat hw), hc]
  · have hc := decodeSys_congr hop (extract_eq_of_mask h (by decide)) (extract_eq_of_mask h (by decide))
      (extract_eq_of_mask h (by decide))
    rw [decode_sys nop hw, decode_sys nop (hop ▸ hw), hc]
  · have hfv : fieldF w = fieldF v := extract_eq_of_mask h (by decide)
    have ha : fieldA w = fieldA v := reg_eq_of_mask h (by decide)
    have hb : fieldB w = fieldB v := reg_eq_of_mask h (by decide)
    have hr : fieldR w = fieldR v := extract_eq_of_mask h (by decide)
    rw [decode_shift nop hw, decode_shift nop (hop ▸ hw), decodeShift_ror hf, decodeShift_ror (hfv ▸ hf), ha, hb, hr]

end Sys2Proof

/-! SUPPORT. Control flow: what the jumps, the branches and the loops do and leave unchanged (40_control_flow.md), and the example
words that the specification prints. -/

namespace Sys2Proof.Machine

open Sys2Proof

/-! ### The comparisons as those of bit vectors (R6) -/

theorem ltSigned_eq_slt (x y : Word) : ltSigned x y = x.slt y := rfl

theorem geSigned_eq_sle (x y : Word) : geSigned x y = y.sle x := rfl

theorem ltUnsigned_eq_ult (x y : Word) : ltUnsigned x y = x.ult y := rfl

theorem geUnsigned_eq_ule (x y : Word) : geUnsigned x y = y.ule x := rfl

/-! ### Where an instruction goes on, with and without a register write (R101 to R103) -/

theorem State.onlyWent_jump (s : State) (x : Word) : OnlyWent s (s.jump (s.pcByte + x * 4)) (s.pcByte + x * 4) := by
  have h := s.onlyWent_setAddr (wordAddr (s.pcByte + x * 4))
  rwa [← State.pcByte_setAddr s, ← State.jump, State.pcByte_jump_of_dvd _ (s.target_dvd _)] at h

theorem State.onlyWent_registerTarget (s : State) (base : Word) (off : BitVec 16) :
    OnlyWent s (s.setAddr (registerTarget base off)) ((base &&& ~~~3) + off.signExtend 64 * 4) :=
  registerTarget_bytes base off ▸ s.onlyWent_setAddr (registerTarget base off)

theorem State.wroteAndWent_jump (s : State) (d : Reg) (v x : Word) :
    WroteAndWent s ((s.writeX d v).jump (s.pcByte + x * 4)) d v (s.pcByte + x * 4) := by
  have h := s.wroteAndWent d v (wordAddr (s.pcByte + x * 4))
  rwa [← State.pcByte_setAddr (s.writeX d v), ← State.jump, State.pcByte_jump_of_dvd _ (s.target_dvd _)] at h

theorem State.wroteAndWent_registerTarget (s : State) (d : Reg) (v base : Word) (off : BitVec 16) :
    WroteAndWent s ((s.writeX d v).setAddr (registerTarget base off)) d v ((base &&& ~~~3) + off.signExtend 64 * 4) :=
  registerTarget_bytes base off ▸ s.wroteAndWent d v (registerTarget base off)

/-- A register write does not move the target of a branch. -/
@[simp] theorem State.writeX_branchTarget (s : State) (d : Reg) (v : Word) (off : BitVec 16) :
    (s.writeX d v).branchTarget off = s.branchTarget off := by
  rw [State.branchTarget, State.branchTarget, State.writeX_pcByte]

/-- The end of a loop: the count is written whether or not it branches, and it branches unless the count is the value that the
limit had before (R28, R155, R156). -/
theorem State.wroteAndWent_countAndBranch (s : State) (a b : Reg) (count : Word) (off : BitVec 16) :
    WroteAndWent s (s.countAndBranch a b count off) b count
      (if count = s.readX a then s.pcByte + 4 else s.pcByte + off.signExtend 64 * 4) := by
  unfold State.countAndBranch
  by_cases h : count = s.readX a
  · have hstay : (count != s.readX a) = false := by simp [h]
    rw [if_pos h, hstay]
    exact s.resultAt_result b count
  · have htaken : (count != s.readX a) = true := by simp [h]
    rw [if_neg h, htaken, State.branch, if_pos rfl, State.writeX_branchTarget, State.branchTarget_eq]
    exact s.wroteAndWent_jump b count _

/-! ### The instructions -/

/-- An instruction that ends as a branch on `taken` completes as one on the same condition in other words. -/
theorem Completes.of_branch {i : Instr} {s : State} {taken c : Bool} {off : BitVec 16} (h : exec i s = .next (s.branch taken off))
    (hc : taken = c) :
    Completes i s fun t => OnlyWent s t (if c then s.pcByte + off.signExtend 64 * 4 else s.pcByte + 4) :=
  ⟨_, h, hc ▸ s.onlyWent_branch taken off⟩

/-- Settles O20: each jump ends in a move of the pc, after a write of the link for JAL and JALR. -/
theorem jumpsComplete : Obligations.JumpsComplete := by
  intro s a b
  refine ⟨fun off => ⟨_, rfl, ?_⟩, fun off => ⟨_, rfl, ?_⟩, fun off => ⟨_, rfl, ?_⟩, fun off => ⟨_, rfl, ?_⟩⟩
  · rw [State.jumpTarget_eq]
    exact s.onlyWent_jump _
  · rw [State.jumpTarget_eq]
    exact s.wroteAndWent_jump linkNo s.link _
  · exact s.onlyWent_registerTarget (s.readX a) off
  · exact s.wroteAndWent_registerTarget b s.link (s.readX a) off

/-- Settles O21: each ends as a branch on its comparison, and its word is the one that the encoder makes. -/
theorem branchesComplete : Obligations.BranchesComplete := by
  intro p hp nop s a b off
  simp only [List.mem_cons, List.not_mem_nil, or_false] at hp
  obtain rfl | rfl | rfl | rfl | rfl | rfl := hp
  · exact ⟨encodeThenDecode nop (.beq a b off) rfl, .of_branch rfl rfl⟩
  · exact ⟨encodeThenDecode nop (.bne a b off) rfl, .of_branch rfl rfl⟩
  · exact ⟨encodeThenDecode nop (.blt a b off) rfl, .of_branch rfl (ltSigned_eq_slt _ _)⟩
  · exact ⟨encodeThenDecode nop (.bge a b off) rfl, .of_branch rfl (geSigned_eq_sle _ _)⟩
  · exact ⟨encodeThenDecode nop (.bltu a b off) rfl, .of_branch rfl (ltUnsigned_eq_ult _ _)⟩
  · exact ⟨encodeThenDecode nop (.bgeu a b off) rfl, .of_branch rfl (geUnsigned_eq_ule _ _)⟩

/-- Settles O22: as for two registers, with the zero-extended immediate in place of the second (R104). -/
theorem immediateBranchesComplete : Obligations.ImmediateBranchesComplete := by
  intro p hp nop s a imm off
  simp only [List.mem_cons, List.not_mem_nil, or_false] at hp
  obtain rfl | rfl | rfl | rfl | rfl | rfl := hp
  · exact ⟨encodeThenDecode nop (.beqi a imm off) rfl, .of_branch rfl rfl⟩
  · exact ⟨encodeThenDecode nop (.bnei a imm off) rfl, .of_branch rfl rfl⟩
  · exact ⟨encodeThenDecode nop (.blti a imm off) rfl, .of_branch rfl (ltSigned_eq_slt _ (uimm5 imm))⟩
  · exact ⟨encodeThenDecode nop (.bgei a imm off) rfl, .of_branch rfl (geSigned_eq_sle _ (uimm5 imm))⟩
  · exact ⟨encodeThenDecode nop (.bltui a imm off) rfl, .of_branch rfl (ltUnsigned_eq_ult _ (uimm5 imm))⟩
  · exact ⟨encodeThenDecode nop (.bgeui a imm off) rfl, .of_branch rfl (geUnsigned_eq_ule _ (uimm5 imm))⟩

/-- Settles O23: both end as `countAndBranch` does, with the count that each makes of register b. -/
theorem loopsComplete : Obligations.LoopsComplete := fun nop s a b off =>
  ⟨encodeThenDecode nop (.loop a b off) rfl, encodeThenDecode nop (.loopd a b off) rfl,
    ⟨_, rfl, s.wroteAndWent_countAndBranch a b (s.readX b + 1) off⟩,
    ⟨_, rfl, s.wroteAndWent_countAndBranch a b (s.readX b - 1) off⟩⟩

end Sys2Proof.Machine

namespace Sys2Proof

/-! ### The example words -/

/-- A word that the encoder makes of a well-formed instruction is read as that instruction. -/
theorem decode_of_encode {nop : Config.NopCode} {w : BitVec 32} {i : Instr} (hw : encode nop i = w) (hi : i.WellFormed) :
    decode nop w = .ok i :=
  hw ▸ encodeThenDecode nop i hi

/-- Settles O4: each word is the encoder's, computed for a free `OP_NOP`, and the decoder reads back what was encoded. -/
theorem sampleWords : Obligations.SampleWords := by
  intro nop
  and_intros
  all_goals exact decode_of_encode rfl rfl

end Sys2Proof

/-! SUPPORT. Loads and stores that are aligned and allowed: what they write and what they leave unchanged (41_load_store.md). -/

namespace Sys2Proof.Machine

open Sys2Proof

/-! ### Loads (R69, R185 to R192) -/

theorem State.memRead_of_loadReady {s : State} {addr : Word} {n : Nat} {w : BitVec (8 * n)} (h : LoadReady s addr n w) :
    s.memRead addr n = .done w := by
  obtain ⟨halign, hok, hbytes⟩ := h
  exact State.memRead_done (aligned_eq_true halign) hok hbytes

theorem State.loadUnsigned_of_loadReady {s : State} {addr : Word} {n : Nat} {w : BitVec (8 * n)} (h : LoadReady s addr n w)
    (d : Reg) : s.loadUnsigned d addr n = .next (s.result d (w.zeroExtend 64)) := by
  rw [State.loadUnsigned, State.memRead_of_loadReady h]
  rfl

theorem State.loadSigned_of_loadReady {s : State} {addr : Word} {n : Nat} {w : BitVec (8 * n)} (h : LoadReady s addr n w)
    (d : Reg) : s.loadSigned d addr n = .next (s.result d (w.signExtend 64)) := by
  rw [State.loadSigned, State.memRead_of_loadReady h]
  rfl

theorem Completes.of_loadUnsigned {i : Instr} {s : State} {d : Reg} {addr : Word} {n : Nat} {w : BitVec (8 * n)}
    (hi : exec i s = s.loadUnsigned d addr n) (h : LoadReady s addr n w) : Completes i s (ResultAt s d (w.zeroExtend 64)) :=
  ⟨_, hi.trans (State.loadUnsigned_of_loadReady h d), s.resultAt_result d _⟩

theorem Completes.of_loadSigned {i : Instr} {s : State} {d : Reg} {addr : Word} {n : Nat} {w : BitVec (8 * n)}
    (hi : exec i s = s.loadSigned d addr n) (h : LoadReady s addr n w) : Completes i s (ResultAt s d (w.signExtend 64)) :=
  ⟨_, hi.trans (State.loadSigned_of_loadReady h d), s.resultAt_result d _⟩

/-- Settles O24: each load is `loadUnsigned` or `loadSigned` of its size at its effective address. -/
theorem loadsComplete : Obligations.LoadsComplete := by
  refine ⟨fun s a b imm => ⟨?lbu, ?lhu, ?lwu, ?ldu, ?lb, ?lh, ?lw, ?ld⟩,
    fun s a b d sc _ => ⟨?lbuX, ?lhuX, ?lwuX, ?lduX, ?lbX, ?lhX, ?lwX, ?ldX⟩⟩
  case lbu | lhu | lwu | ldu | lbuX | lhuX | lwuX | lduX => exact fun w => .of_loadUnsigned rfl
  case lb | lh | lw | ld | lbX | lhX | lwX | ldX => exact fun w => .of_loadSigned rfl

/-! ### Stores (R69, R193 to R196) -/

theorem State.memWrite_of_storeReady {s : State} {addr : Word} {n : Nat} (h : StoreReady s addr n) (v : BitVec (8 * n)) :
    s.memWrite addr n v = .done (s.stored addr n v) := by
  obtain ⟨halign, hok⟩ := h
  simp [State.memWrite, aligned_eq_true halign, hok]

theorem State.store_of_storeReady {s : State} {addr : Word} {n : Nat} (h : StoreReady s addr n) (v : Word) :
    s.store addr n v = .next (s.stored addr n (v.setWidth (8 * n))).advance := by
  rw [State.store, State.memWrite_of_storeReady h]
  rfl

/-- The end of an instruction that stores at most eight bytes. -/
theorem State.storedAt_advance (s : State) (addr : Word) {n : Nat} (hn : n ≤ 8) (v : BitVec (8 * n)) :
    StoredAt s addr n v (s.stored addr n v).advance := by
  obtain ⟨hR, hE, hmem, hrest, hpc⟩ := (s.stored addr n v).onlyWent_advance
  obtain ⟨hheld, hother⟩ := s.stored_wroteMemory addr n hn v
  exact ⟨hR, hE, ⟨fun k hk => (hmem _).trans (hheld k hk), fun a ha => (hmem a).trans (hother a ha)⟩, hrest, hpc⟩

theorem Completes.of_store {i : Instr} {s : State} {addr : Word} {n : Nat} {v : Word} (hn : n ≤ 8)
    (hi : exec i s = s.store addr n v) (h : StoreReady s addr n) : Completes i s (StoredAt s addr n (v.setWidth (8 * n))) :=
  ⟨_, hi.trans (State.store_of_storeReady h v), s.storedAt_advance addr hn _⟩

/-- Settles O25: each store is `store` of its size, at most eight bytes, at its effective address. -/
theorem storesComplete : Obligations.StoresComplete := by
  refine ⟨fun s a b imm => ⟨?sb, ?sh, ?sw, ?sd⟩, fun s a b c sc _ => ⟨?sbX, ?shX, ?swX, ?sdX⟩⟩
  all_goals exact .of_store (by decide) rfl

end Sys2Proof.Machine

/-! SUPPORT. The integer instructions: the integer functions as operations of bit vectors, the long immediates, and what the
instructions that compute an integer function write and leave unchanged (42_integer.md; of 43_three_operand.md the minima and maxima). -/

namespace Sys2Proof.Machine

open Sys2Proof

/-! ### Arithmetic and compares of two values (R222, R225 to R238, R241 to R254) -/

theorem fnNadd_eq_sub (a b : Word) : fnNadd a b = b - a := by
  rw [fnNadd]
  ring

theorem fnNadds_eq_neg_add (a b : Word) (n : Nat) : fnNadds a b n = -a + b <<< n := by
  rw [fnNadds, zero_sub]

theorem fnEq_eq_ite (a b : Word) : fnEq a b = if a = b then 1 else 0 := by simp [fnEq, boolWord]

theorem fnNe_eq_ite (a b : Word) : fnNe a b = if a ≠ b then 1 else 0 := by simp [fnNe, boolWord]

theorem fnLtu_eq_ite (a b : Word) : fnLtu a b = if a < b then 1 else 0 := by
  simp only [fnLtu, boolWord, ltUnsigned_eq_ult, BitVec.ult_iff_lt]

theorem fnGeu_eq_ite (a b : Word) : fnGeu a b = if b ≤ a then 1 else 0 := by
  simp only [fnGeu, boolWord, geUnsigned_eq_ule, BitVec.ule_iff_le]

/-- GE is 0 exactly where LT is 1 (R222). -/
theorem fnGe_eq_ite_slt (a b : Word) : fnGe a b = if a.slt b then 0 else 1 := by
  rw [fnGe, boolWord, geSigned_eq_sle, BitVec.sle_eq_not_slt]
  cases a.slt b <;> rfl

/-- GEU is 0 exactly where LTU is 1 (R222). -/
theorem fnGeu_eq_ite_ult (a b : Word) : fnGeu a b = if a.ult b then 0 else 1 := by
  rw [fnGeu, boolWord, geUnsigned_eq_ule, BitVec.ule_eq_not_ult]
  cases a.ult b <;> rfl

/-! ### Minimum and maximum (R223, R239, R240, R324 to R327; D8, D11) -/

theorem slt_eq_sle_of_ne {a b : Word} (h : a ≠ b) : a.slt b = a.sle b := by
  have hne : a.toInt ≠ b.toInt := fun he => h (BitVec.eq_of_toInt_eq he)
  rw [Bool.eq_iff_iff, BitVec.slt_iff_toInt_lt, BitVec.sle_iff_toInt_le]
  omega

/-- Of equal values either one is the lesser, so the comparison may be `≤` as well as `<`. -/
theorem fnMin_eq_ite_sle (a b : Word) : fnMin a b = if a.sle b then a else b := by
  rw [fnMin, ltSigned_eq_slt]
  by_cases h : a = b
  · simp [h]
  · rw [slt_eq_sle_of_ne h]

theorem fnMax_eq_ite_sle (a b : Word) : fnMax a b = if a.sle b then b else a := by
  rw [fnMax, ltSigned_eq_slt]
  by_cases h : a = b
  · simp [h]
  · rw [slt_eq_sle_of_ne h]

/-- Of two values `f` answers one whose key is not above the other's. -/
def PicksLeast (key : Word → ℤ) (f : Word → Word → Word) : Prop :=
  ∀ a b, f a b = a ∧ key a ≤ key b ∨ f a b = b ∧ key b ≤ key a

theorem picksLeast_ite {key : Word → ℤ} {lt : Word → Word → Bool} (hlt : ∀ a b, lt a b = true ↔ key a < key b) :
    PicksLeast key fun a b => if lt a b then a else b := by
  intro a b
  by_cases h : lt a b = true
  · exact .inl ⟨if_pos h, ((hlt a b).1 h).le⟩
  · exact .inr ⟨if_neg h, not_lt.1 (mt (hlt a b).2 h)⟩

/-- The greater of two values is the one with the lesser negated key. -/
theorem picksLeast_neg_ite {key : Word → ℤ} {lt : Word → Word → Bool} (hlt : ∀ a b, lt a b = true ↔ key a < key b) :
    PicksLeast (fun v => -key v) fun a b => if lt a b then b else a := by
  intro a b
  by_cases h : lt a b = true
  · exact .inr ⟨if_pos h, neg_le_neg ((hlt a b).1 h).le⟩
  · exact .inl ⟨if_neg h, neg_le_neg (not_lt.1 (mt (hlt a b).2 h))⟩

theorem ltUnsigned_iff (a b : Word) : ltUnsigned a b = true ↔ (a.toNat : ℤ) < b.toNat := by simp [ltUnsigned]

theorem ltSigned_iff (a b : Word) : ltSigned a b = true ↔ a.toInt < b.toInt := by simp [ltSigned]

theorem picksLeast_lesserU : PicksLeast (fun v => v.toNat) lesserU := picksLeast_ite ltUnsigned_iff

theorem picksLeast_greaterU : PicksLeast (fun v => -v.toNat) greaterU := picksLeast_neg_ite ltUnsigned_iff

theorem picksLeast_fnMin : PicksLeast BitVec.toInt fnMin := picksLeast_ite ltSigned_iff

theorem picksLeast_fnMax : PicksLeast (fun v => -v.toInt) fnMax := picksLeast_neg_ite ltSigned_iff

section PicksLeast

variable {key : Word → ℤ} {f : Word → Word → Word}

theorem PicksLeast.eq_or_eq (h : PicksLeast key f) (a b : Word) : f a b = a ∨ f a b = b := (h a b).imp And.left And.left

theorem PicksLeast.key_le (h : PicksLeast key f) (a b : Word) : key (f a b) ≤ key a ∧ key (f a b) ≤ key b := by
  obtain ⟨hf, hle⟩ | ⟨hf, hle⟩ := h a b <;> rw [hf]
  · exact ⟨le_rfl, hle⟩
  · exact ⟨hle, le_rfl⟩

theorem PicksLeast.mem_three (h : PicksLeast key f) (a b c : Word) : f (f a b) c ∈ [a, b, c] := by
  obtain hc | hc := h.eq_or_eq (f a b) c <;> rw [hc]
  · obtain hab | hab := h.eq_or_eq a b <;> simp [hab]
  · simp

/-- Picking twice picks a least one of three (R324 to R327). -/
theorem PicksLeast.key_le_three (h : PicksLeast key f) (a b c : Word) : ∀ x ∈ [a, b, c], key (f (f a b) c) ≤ key x := by
  obtain ⟨ha, hb⟩ := h.key_le a b
  obtain ⟨hab, hc⟩ := h.key_le (f a b) c
  simpa using ⟨hab.trans ha, hab.trans hb, hc⟩

end PicksLeast

/-! ### Shifts and rotates (R264 to R267, R274 to R277) -/

theorem shiftAmount_eq (b : Word) : shiftAmount b = b.toNat % 64 := by simp [shiftAmount]

/-- A rotation by 0 is no case of its own: there the left shift by 64 leaves nothing. -/
theorem fnRor_eq_rotateRight (a : Word) {n : Nat} (hn : n < 64) : fnRor a n = a.rotateRight n := by
  rw [BitVec.rotateRight_def, Nat.mod_eq_of_lt hn, fnRor]
  split
  next h =>
    have hout : a <<< 64 = 0 := BitVec.shiftLeft_eq_zero le_rfl
    simp [h, hout]
  next => rfl

/-! ### Division (R269 to R273, R279 to R282; D7) -/

theorem signedCorner_iff (a b : Word) : signedCorner a b = true ↔ b = 0 ∨ a = BitVec.intMin 64 ∧ b = -1 := by
  have ha : a.toInt = -2 ^ 63 ↔ a = BitVec.intMin 64 := by
    rw [← BitVec.toInt_inj]
    rfl
  have hb : b.toInt = -1 ↔ b = -1 := by
    rw [← BitVec.toInt_inj]
    rfl
  simp only [signedCorner, Bool.or_eq_true, Bool.and_eq_true, decide_eq_true_eq, ha, hb]

theorem ofInt_tdiv (a b : Word) : BitVec.ofInt 64 (a.toInt.tdiv b.toInt) = a.sdiv b :=
  BitVec.eq_of_toInt_eq (by rw [BitVec.toInt_ofInt, BitVec.toInt_sdiv])

theorem ofInt_tmod (a b : Word) : BitVec.ofInt 64 (a.toInt.tmod b.toInt) = a.srem b := by
  rw [← BitVec.toInt_srem, BitVec.ofInt_toInt]

section Division

variable {a b : Word}

theorem fnDiv_of_corner (h : b = 0 ∨ a = BitVec.intMin 64 ∧ b = -1) : fnDiv a b = Config.divCorner .div a b :=
  if_pos ((signedCorner_iff a b).2 h)

theorem fnMod_of_corner (h : b = 0 ∨ a = BitVec.intMin 64 ∧ b = -1) : fnMod a b = Config.divCorner .mod a b :=
  if_pos ((signedCorner_iff a b).2 h)

theorem not_signedCorner (hb : b ≠ 0) (h : ¬(a = BitVec.intMin 64 ∧ b = -1)) : ¬signedCorner a b = true :=
  mt (signedCorner_iff a b).1 (not_or.2 ⟨hb, h⟩)

theorem fnDiv_eq_sdiv (hb : b ≠ 0) (h : ¬(a = BitVec.intMin 64 ∧ b = -1)) : fnDiv a b = a.sdiv b := by
  rw [fnDiv, if_neg (not_signedCorner hb h), ofInt_tdiv]

theorem fnMod_eq_srem (hb : b ≠ 0) (h : ¬(a = BitVec.intMin 64 ∧ b = -1)) : fnMod a b = a.srem b := by
  rw [fnMod, if_neg (not_signedCorner hb h), ofInt_tmod]

theorem fnDivu_of_zero (h : b = 0) : fnDivu a b = Config.divCorner .divu a b := if_pos h

theorem fnModu_of_zero (h : b = 0) : fnModu a b = Config.divCorner .modu a b := if_pos h

theorem fnDivu_eq_div (hb : b ≠ 0) : fnDivu a b = a / b := by rw [fnDivu, if_neg hb, BitVec.udiv_def]

theorem fnModu_eq_mod (hb : b ≠ 0) : fnModu a b = a % b := by rw [fnModu, if_neg hb, BitVec.umod_def]

end Division

/-! ### The functions of an immediate, and the instructions that compute them (R111, R241 to R255, R286) -/

/-- The sixteen immediate functions as the model names them, in the order of their codes. -/
def immediateMeanings : List (Word → Word → Word) :=
  [fnAdd, fnNadd, fnAnd, fnCand, fnOr, fnCor, fnXor, fun _ i => i, fnEq, fnNe, fnLt, fnGe, fnLtu, fnGeu, fnMin, fnMax]

theorem immediateFunctions_eq : immediateFunctions = immediateMeanings := by
  have hnadd : fnNadd = fun a i => i - a := funext₂ fnNadd_eq_sub
  have heq : fnEq = fun a i => if a = i then 1 else 0 := funext₂ fnEq_eq_ite
  have hne : fnNe = fun a i => if a = i then 0 else 1 := funext₂ fun a i => (fnNe_eq_ite a i).trans (ite_not ..)
  have hge : fnGe = fun a i => if a.slt i then 0 else 1 := funext₂ fnGe_eq_ite_slt
  have hgeu : fnGeu = fun a i => if a.ult i then 0 else 1 := funext₂ fnGeu_eq_ite_ult
  rw [immediateMeanings, hnadd, heq, hne, hge, hgeu]
  rfl

/-- An instruction form with two registers and Imm12: I format (R94). -/
abbrev ImmediateForm := Reg → Reg → BitVec 12 → Instr

/-- ALUI, in the order of the codes (R111). -/
def aluiForms : List ImmediateForm :=
  [.addI, .naddI, .andI, .candI, .orI, .corI, .xorI, .setI, .eqI, .neI, .ltI, .geI, .ltuI, .geuI, .minI, .maxI]

/-- ALUI1, in the order of the codes (R111). -/
def alui1Forms : List ImmediateForm :=
  [.addI1, .naddI1, .andI1, .candI1, .orI1, .corI1, .xorI1, .setI1, .eqI1, .neI1, .ltI1, .geI1, .ltuI1, .geuI1, .minI1, .maxI1]

/-- ALUI2, in the order of the codes (R111). -/
def alui2Forms : List ImmediateForm :=
  [.addI2, .naddI2, .andI2, .candI2, .orI2, .corI2, .xorI2, .setI2, .eqI2, .neI2, .ltI2, .geI2, .ltuI2, .geuI2, .minI2, .maxI2]

/-- ALUI3, in the order of the codes (R111). -/
def alui3Forms : List ImmediateForm :=
  [.addI3, .naddI3, .andI3, .candI3, .orI3, .corI3, .xorI3, .setI3, .eqI3, .neI3, .ltI3, .geI3, .ltuI3, .geuI3, .minI3, .maxI3]

/-- RET, in the order of the codes (R111). -/
def retForms : List ImmediateForm :=
  [.retAdd, .retNadd, .retAnd, .retCand, .retOr, .retCor, .retXor, .retSet, .retEq, .retNe, .retLt, .retGe, .retLtu, .retGeu,
    .retMin, .retMax]

section ImmediateForms

variable {p : ImmediateForm × (Word → Word → Word)} (s : State) (a b : Reg) (imm : BitVec 12)

theorem exec_alui (hp : p ∈ aluiForms.zip immediateMeanings) :
    exec (p.1 a b imm) s = .next (s.result b (p.2 (s.readX a) (imm12 imm))) := by
  fin_cases hp <;> rfl

theorem exec_alui1 (hp : p ∈ alui1Forms.zip immediateMeanings) :
    exec (p.1 a b imm) s = s.longResult b (s.readImm1 imm) (p.2 (s.readX a)) := by
  fin_cases hp <;> rfl

theorem exec_alui2 (hp : p ∈ alui2Forms.zip immediateMeanings) :
    exec (p.1 a b imm) s = s.longResult b (s.readImm2 imm) (p.2 (s.readX a)) := by
  fin_cases hp <;> rfl

theorem exec_alui3 (hp : p ∈ alui3Forms.zip immediateMeanings) :
    exec (p.1 a b imm) s = s.longResult b (s.readImm3 imm) (p.2 (s.readX a)) := by
  fin_cases hp <;> rfl

theorem exec_ret (hp : p ∈ retForms.zip immediateMeanings) :
    exec (p.1 a b imm) s = .next (s.returning b (p.2 (s.readX a) (imm12 imm))) := by
  fin_cases hp <;> rfl

end ImmediateForms

/-! ### Extension words (R68, R97, R256) -/

theorem State.extensionWord_of_nopReady {s : State} {addr : Word} {x : BitVec 26} (h : NopReady s addr x) :
    s.extensionWord addr = .done x := by
  obtain ⟨hok, hbytes⟩ := h
  have hop : fieldOp (s.nopCode.code ++ x) = s.nopCode.code := fieldOp_formatJ ..
  have himm : fieldImm26 (s.nopCode.code ++ x) = x := fieldImm26_formatJ ..
  rw [State.extensionWord, State.fetchWord_done hok hbytes, Attempt.bind, if_pos hop, himm]

theorem State.extensionWord_refused {s : State} {addr : Word} (h : s.accessOk .fetch addr 4 = false) :
    s.extensionWord addr = .trap (.illegalFetch addr) := by
  simp [State.extensionWord, State.fetchWord, h, Attempt.bind]

theorem State.extensionWord_of_no_nop {s : State} {addr : Word} {w : BitVec 32} (h : FetchReady s addr w)
    (hw : w.extractLsb' 26 6 ≠ s.nopCode.code) : s.extensionWord addr = .trap .invalidInstruction := by
  obtain ⟨hok, hbytes⟩ := h
  rw [State.extensionWord, State.fetchWord_done hok hbytes]
  exact if_neg hw

theorem State.extensionWord_of_lacksByte {s : State} {addr : Word} (hok : s.accessOk .fetch addr 4 = true)
    (h : LacksByte s addr 4) : s.extensionWord addr = .stuck (.noValue addr) := by
  simp [State.extensionWord, State.fetchWord, hok, State.bytesAt_of_lacksByte h, Attempt.bind]

/-- The instruction `i` reads an extension word at `addr` before anything else, and goes on with its Imm26 field. -/
def NeedsExtension (i : Instr) (s : State) (addr : Word) : Prop :=
  ∃ k : BitVec 26 → Attempt State, exec i s = finish s ((s.extensionWord addr).bind k)

/-- Without its extension word an instruction raises the exception of that word's fetch, or stops at a byte that has no value (R256,
R460, R501). -/
theorem NeedsExtension.traps {i : Instr} {s : State} {addr : Word} (h : NeedsExtension i s addr) :
    (s.accessOk .fetch addr 4 = false → Completes i s (Raised s 3 (some addr))) ∧
    (∀ w, FetchReady s addr w → w.extractLsb' 26 6 ≠ s.nopCode.code → Completes i s (Raised s 0 none)) ∧
    (s.accessOk .fetch addr 4 = true → LacksByte s addr 4 → exec i s = .fault (.noValue addr)) := by
  obtain ⟨k, hk⟩ := h
  refine ⟨fun hno => completes_raised hk (State.extensionWord_refused hno),
    fun w hw hop => completes_raised hk (State.extensionWord_of_no_nop hw hop), fun hok hlacks => ?_⟩
  rw [hk, State.extensionWord_of_lacksByte hok hlacks]
  rfl

/-! ### Long immediates (R107, R256, R259 to R261) -/

theorem Attempt.bind_assoc {α β γ : Type} (x : Attempt α) (f : α → Attempt β) (g : β → Attempt γ) :
    (x.bind f).bind g = x.bind fun a => (f a).bind g := by
  cases x <;> rfl

section LongImmediates

variable {s : State} {x y : BitVec 26} (imm : BitVec 12)

theorem State.readImm1_of_nopReady (h : NopReady s (s.pcByte + 4) x) : s.readImm1 imm = .done (longImm1 x imm) := by
  rw [State.readImm1, State.extensionWord_of_nopReady h, Attempt.bind]

theorem State.readImm2_of_nopReady (h : NopReady s (s.pcByte + 4) x) : s.readImm2 imm = .done (longImm2 x imm) := by
  rw [State.readImm2, State.extensionWord_of_nopReady h, Attempt.bind]

/-- After the first extension word of an ALUI3 the second one is left to read. -/
theorem State.readImm3_of_first (h : NopReady s (s.pcByte + 4) x) :
    s.readImm3 imm = (s.extensionWord (s.pcByte + 8)).bind fun y => .done (longImm3 x y imm) := by
  rw [State.readImm3, State.extensionWord_of_nopReady h, Attempt.bind]

theorem State.readImm3_of_nopReady (hx : NopReady s (s.pcByte + 4) x) (hy : NopReady s (s.pcByte + 8) y) :
    s.readImm3 imm = .done (longImm3 x y imm) := by
  rw [State.readImm3_of_first imm hx, State.extensionWord_of_nopReady hy, Attempt.bind]

end LongImmediates

theorem NeedsExtension.of_longResult {i : Instr} {s : State} {b : Reg} {addr : Word} {imm : Attempt Word}
    {k : BitVec 26 → Attempt Word} {f : Word → Word} (hi : exec i s = s.longResult b imm f)
    (himm : imm = (s.extensionWord addr).bind k) : NeedsExtension i s addr := by
  subst himm
  exact ⟨_, hi.trans (congrArg (finish s) (Attempt.bind_assoc ..))⟩

/-- Each form of a list as long as the functions is paired with one of them. -/
theorem exists_mem_zip {α β : Type} {l : List α} {m : List β} (hlen : l.length ≤ m.length) {a : α} (ha : a ∈ l) :
    ∃ b, (a, b) ∈ l.zip m := by
  rw [← List.map_fst_zip hlen] at ha
  obtain ⟨⟨_, b⟩, hb, rfl⟩ := List.mem_map.1 ha
  exact ⟨b, hb⟩

theorem needsExtension_first {c : ImmediateForm} (hc : c ∈ alui1Forms ++ alui2Forms ++ alui3Forms) (s : State) (a b : Reg)
    (imm : BitVec 12) : NeedsExtension (c a b imm) s (s.pcByte + 4) := by
  simp only [List.mem_append] at hc
  obtain (h1 | h2) | h3 := hc
  · obtain ⟨f, hf⟩ := exists_mem_zip (m := immediateMeanings) (by decide) h1
    exact .of_longResult (exec_alui1 s a b imm hf) rfl
  · obtain ⟨f, hf⟩ := exists_mem_zip (m := immediateMeanings) (by decide) h2
    exact .of_longResult (exec_alui2 s a b imm hf) rfl
  · obtain ⟨f, hf⟩ := exists_mem_zip (m := immediateMeanings) (by decide) h3
    exact .of_longResult (exec_alui3 s a b imm hf) rfl

theorem needsExtension_second {c : ImmediateForm} (hc : c ∈ alui3Forms) {s : State} {x : BitVec 26}
    (hx : NopReady s (s.pcByte + 4) x) (a b : Reg) (imm : BitVec 12) : NeedsExtension (c a b imm) s (s.pcByte + 8) := by
  obtain ⟨f, hf⟩ := exists_mem_zip (m := immediateMeanings) (by decide) hc
  exact .of_longResult (exec_alui3 s a b imm hf) (State.readImm3_of_first imm hx)

/-! ### How the instructions end -/

/-- An instruction that ends in a register write completes with the same value in other words. -/
theorem Completes.of_result {i : Instr} {s : State} {d : Reg} {v w : Word} (hi : exec i s = .next (s.result d v)) (hv : v = w) :
    Completes i s (ResultAt s d w) :=
  ⟨_, hi, hv ▸ s.resultAt_result d v⟩

theorem Completes.of_longResult {i : Instr} {s : State} {b : Reg} {imm : Attempt Word} {v : Word} {f : Word → Word}
    (hi : exec i s = s.longResult b imm f) (himm : imm = .done v) : Completes i s (ResultAt s b (f v)) := by
  subst himm
  exact ⟨_, hi, s.resultAt_result b (f v)⟩

/-- The end of a RET: register 31 is read in the state before the write (R262, D12). -/
theorem State.wroteAndWent_returning (s : State) (b : Reg) (v : Word) :
    WroteAndWent s (s.returning b v) b v (s.readX 31 &&& ~~~3) := by
  rw [and_not_three]
  exact s.wroteAndWent b v (wordAddr (s.readX 31))

/-! ### The instructions -/

/-- Settles O29: the words are those that the encoder makes, and each result is its function of the two registers. -/
theorem twoRegisterArithmetic : Obligations.TwoRegisterArithmetic := fun nop _ a b d =>
  ⟨encodeThenDecode nop (.add a b d) rfl, encodeThenDecode nop (.nadd a b d) rfl, encodeThenDecode nop (.and a b d) rfl,
    encodeThenDecode nop (.cand a b d) rfl, encodeThenDecode nop (.or a b d) rfl, encodeThenDecode nop (.cor a b d) rfl,
    encodeThenDecode nop (.xor a b d) rfl, encodeThenDecode nop (.xnor a b d) rfl,
    .of_result rfl rfl, .of_result rfl (fnNadd_eq_sub _ _), .of_result rfl rfl, .of_result rfl rfl, .of_result rfl rfl,
    .of_result rfl rfl, .of_result rfl rfl, .of_result rfl rfl⟩

/-- Settles O30: the words are those that the encoder makes, and each comparison is that of bit vectors. -/
theorem twoRegisterCompares : Obligations.TwoRegisterCompares := fun nop _ a b d =>
  ⟨encodeThenDecode nop (.eq a b d) rfl, encodeThenDecode nop (.ne a b d) rfl, encodeThenDecode nop (.lt a b d) rfl,
    encodeThenDecode nop (.ge a b d) rfl, encodeThenDecode nop (.ltu a b d) rfl, encodeThenDecode nop (.geu a b d) rfl,
    .of_result rfl (fnEq_eq_ite _ _), .of_result rfl (fnNe_eq_ite _ _), .of_result rfl rfl, .of_result rfl rfl,
    .of_result rfl (fnLtu_eq_ite _ _), .of_result rfl (fnGeu_eq_ite _ _)⟩

/-- Settles O31: with three sources the value is picked twice, by its number or by its number negated. -/
theorem minimaAndMaxima : Obligations.MinimaAndMaxima := by
  intro s a b c d
  have hminu := picksLeast_lesserU.key_le_three (s.readX a) (s.readX b) (s.readX c)
  have hmaxu := picksLeast_greaterU.key_le_three (s.readX a) (s.readX b) (s.readX c)
  have hmin := picksLeast_fnMin.key_le_three (s.readX a) (s.readX b) (s.readX c)
  have hmax := picksLeast_fnMax.key_le_three (s.readX a) (s.readX b) (s.readX c)
  exact ⟨.of_result rfl (fnMin_eq_ite_sle _ _), .of_result rfl (fnMax_eq_ite_sle _ _),
    ⟨_, picksLeast_lesserU.mem_three _ _ _, fun x hx => Int.ofNat_le.1 (hminu x hx), .of_result rfl rfl⟩,
    ⟨_, picksLeast_greaterU.mem_three _ _ _, fun x hx => Int.ofNat_le.1 (neg_le_neg_iff.1 (hmaxu x hx)), .of_result rfl rfl⟩,
    ⟨_, picksLeast_fnMin.mem_three _ _ _, hmin, .of_result rfl rfl⟩,
    ⟨_, picksLeast_fnMax.mem_three _ _ _, fun x hx => neg_le_neg_iff.1 (hmax x hx), .of_result rfl rfl⟩⟩

/-- Settles O32: an ALUI ends in its function of the register and Imm12. -/
theorem immediateFunctionsComplete : Obligations.ImmediateFunctionsComplete := by
  intro p hp s a b imm
  rw [immediateFunctions_eq] at hp
  exact .of_result (exec_alui s a b imm hp) rfl

/-- Settles O33: the NOPs that are ready give the long immediate, and the rest is as for ALUI. -/
theorem longImmediatesComplete : Obligations.LongImmediatesComplete := by
  unfold Obligations.LongImmediatesComplete
  rw [immediateFunctions_eq]
  refine ⟨fun p hp s a b imm x hx => ?alui1, fun p hp s a b imm x hx => ?alui2, fun p hp s a b imm x y hx hy => ?alui3⟩
  case alui1 => exact .of_longResult (exec_alui1 s a b imm hp) (State.readImm1_of_nopReady imm hx)
  case alui2 => exact .of_longResult (exec_alui2 s a b imm hp) (State.readImm2_of_nopReady imm hx)
  case alui3 => exact .of_longResult (exec_alui3 s a b imm hp) (State.readImm3_of_nopReady imm hx hy)

/-- Settles O34: all 48 forms read the word at `pc + 4` first, and ALUI3 then reads the one at `pc + 8`. -/
theorem missingExtensionWordsTrap : Obligations.MissingExtensionWordsTrap :=
  ⟨fun _ hc s a b imm => (needsExtension_first hc s a b imm).traps,
    fun _ hc _ a b imm _ hx => (needsExtension_second hc hx a b imm).traps⟩

/-- Settles O35: a RET ends in its function of the register and Imm12, at the address that register 31 held before. -/
theorem returnsComplete : Obligations.ReturnsComplete := by
  intro p hp s a b imm
  rw [immediateFunctions_eq] at hp
  exact ⟨_, exec_ret s a b imm hp, s.wroteAndWent_returning b _⟩

/-- Settles O36: a NOP ends in the move to the next instruction. -/
theorem nopDoesNothing : Obligations.NopDoesNothing := fun s _ => ⟨_, rfl, s.onlyWent_advance⟩

/-- Settles O37: the amounts in a register are its low six bits, and rotations are those of bit vectors. -/
theorem shiftsComplete : Obligations.ShiftsComplete := by
  intro s a b d l r _ hr
  have hamount : (s.readX b).toNat % 64 < 64 := Nat.mod_lt _ (by decide)
  simp only [← shiftAmount_eq] at hamount ⊢
  exact ⟨.of_result rfl rfl, .of_result rfl rfl, .of_result rfl rfl, .of_result rfl (fnRor_eq_rotateRight _ hr),
    .of_result rfl rfl, .of_result rfl rfl, .of_result rfl rfl, .of_result rfl (fnRor_eq_rotateRight _ hamount)⟩

/-- Settles O38: each result is its function of the operands. -/
theorem multiplyAndAddShifted : Obligations.MultiplyAndAddShifted := fun _ _ _ _ _ _ _ =>
  ⟨.of_result rfl rfl, .of_result rfl rfl, .of_result rfl rfl, .of_result rfl (fnNadds_eq_neg_add _ _ _)⟩

/-- Settles O39: outside the corners the quotients and remainders are those of bit vectors. -/
theorem divisionsComplete : Obligations.DivisionsComplete := fun _ _ _ _ _ =>
  ⟨fun hb h => ⟨.of_result rfl (fnDiv_eq_sdiv hb h), .of_result rfl (fnMod_eq_srem hb h)⟩,
    fun hb => ⟨.of_result rfl (fnDivu_eq_div hb), .of_result rfl (fnModu_eq_mod hb)⟩,
    fun hb h => ⟨.of_result rfl (fnDiv_eq_sdiv hb h), .of_result rfl (fnMod_eq_srem hb h)⟩,
    fun hb => ⟨.of_result rfl (fnDivu_eq_div hb), .of_result rfl (fnModu_eq_mod hb)⟩⟩

/-- Settles O40: in the corners each division takes the open value. -/
theorem openDivisionsComplete : Obligations.OpenDivisionsComplete := fun _ _ _ _ _ =>
  ⟨fun h => ⟨.of_result rfl (fnDiv_of_corner h), .of_result rfl (fnMod_of_corner h)⟩,
    fun h => ⟨.of_result rfl (fnDivu_of_zero h), .of_result rfl (fnModu_of_zero h)⟩,
    fun h => ⟨.of_result rfl (fnDiv_of_corner h), .of_result rfl (fnMod_of_corner h)⟩,
    fun h => ⟨.of_result rfl (fnDivu_of_zero h), .of_result rfl (fnModu_of_zero h)⟩⟩

end Sys2Proof.Machine

/-! SUPPORT. The three-operand instructions but the minima and maxima: their functions as operations of bit vectors, and what the
instructions write and leave unchanged (43_three_operand.md). -/

namespace Sys2Proof.Machine

open Sys2Proof

/-! ### Arithmetic and logic of three values (R304 to R311; D10) -/

theorem fnNadd3_eq_neg_add (a b c : Word) : fnNadd3 a b c = -a + b + c := by rw [fnNadd3, zero_sub]

/-- Complementing the first of the values complements the result (R311). -/
theorem fnXnor3_eq_not_xor (a b c : Word) : fnXnor3 a b c = ~~~(a ^^^ b ^^^ c) := by
  rw [fnXnor3, ← BitVec.not_xor_left, ← BitVec.not_xor_left]

/-! ### Comparisons combined with AND and OR (R312 to R323; D9) -/

theorem isTrue_iff (a : Word) : isTrue a = true ↔ a ≠ 0 := decide_eq_true_iff

section CombinedCompares

variable {p : Bool} {P : Prop} [Decidable P]

/-- The comparison `p` may be given as any proposition `P` that it decides; so too for OR below. -/
theorem andCompare_eq_ite (a : Word) (hp : p = true ↔ P) : andCompare a p = if a ≠ 0 ∧ P then 1 else 0 := by
  simp only [andCompare, boolWord, Bool.and_eq_true, isTrue_iff, hp]

theorem orCompare_eq_ite (a : Word) (hp : p = true ↔ P) : orCompare a p = if a ≠ 0 ∨ P then 1 else 0 := by
  simp only [orCompare, boolWord, Bool.or_eq_true, isTrue_iff, hp]

end CombinedCompares

theorem ltUnsigned_iff_lt (a b : Word) : ltUnsigned a b = true ↔ a < b := by rw [ltUnsigned_eq_ult, BitVec.ult_iff_lt]

theorem geUnsigned_iff_le (a b : Word) : geUnsigned a b = true ↔ b ≤ a := by rw [geUnsigned_eq_ule, BitVec.ule_iff_le]

/-! ### Selection by sign (R330 to R332) -/

/-- The sign of a word is its bit 63. -/
theorem toInt_neg_iff_bit63 (a : Word) : a.toInt < 0 ↔ a.getLsbD 63 = true := by
  rw [← decide_eq_true_iff (p := a.toInt < 0), ← BitVec.msb_eq_toInt, BitVec.msb_eq_getLsbD_last]

/-- A word is positive when bit 63 is 0 and it is not zero. -/
theorem toInt_pos_iff_bit63 (a : Word) : 0 < a.toInt ↔ a.getLsbD 63 = false ∧ a ≠ 0 := by
  have hsign : 0 ≤ a.toInt ↔ a.getLsbD 63 = false := by
    rw [← not_lt, toInt_neg_iff_bit63, Bool.not_eq_true]
  have hzero : 0 ≠ a.toInt ↔ a ≠ 0 := ne_comm.trans (BitVec.toInt_ne (y := (0 : Word)))
  rw [lt_iff_le_and_ne, hsign, hzero]

theorem fnSeln_eq_ite_bit63 (a b c : Word) : fnSeln a b c = if a.getLsbD 63 then b else c := by
  simp only [fnSeln, toInt_neg_iff_bit63]

theorem fnSelp_eq_ite_bit63 (a b c : Word) : fnSelp a b c = if a.getLsbD 63 = false ∧ a ≠ 0 then b else c := by
  simp only [fnSelp, toInt_pos_iff_bit63]

/-! ### Multiplication with addition and subtraction (R334, R335) -/

/-- `BitVec.ofInt` keeps sums and products, so words may be computed with in place of integers. -/
theorem fnMadd_eq_ofInt (a b c : Word) : fnMadd a b c = BitVec.ofInt 64 (a.toInt * b.toInt + c.toInt) := by
  simp only [fnMadd, BitVec.ofInt_add, BitVec.ofInt_mul, BitVec.ofInt_toInt]

theorem fnNmadd_eq_ofInt (a b c : Word) : fnNmadd a b c = BitVec.ofInt 64 (c.toInt - a.toInt * b.toInt) := by
  simp only [fnNmadd, sub_eq_add_neg, BitVec.ofInt_add, BitVec.ofInt_neg, BitVec.ofInt_mul, BitVec.ofInt_toInt]

/-! ### The instructions -/

/-- Settles O41: each result is its function of the three registers. -/
theorem threeRegisterLogic : Obligations.ThreeRegisterLogic := fun _ _ _ _ _ =>
  ⟨.of_result rfl rfl, .of_result rfl (fnNadd3_eq_neg_add _ _ _), .of_result rfl rfl, .of_result rfl rfl, .of_result rfl rfl,
    .of_result rfl rfl, .of_result rfl rfl, .of_result rfl (fnXnor3_eq_not_xor _ _ _)⟩

/-- Settles O42: each comparison decides its proposition, and it is combined with register a read as a Boolean. -/
theorem comparesWithAndOr : Obligations.ComparesWithAndOr := fun _ _ _ _ _ =>
  ⟨.of_result rfl (andCompare_eq_ite _ beq_iff_eq), .of_result rfl (andCompare_eq_ite _ bne_iff_ne),
    .of_result rfl (andCompare_eq_ite _ (by rw [ltSigned_eq_slt])), .of_result rfl (andCompare_eq_ite _ (by rw [geSigned_eq_sle])),
    .of_result rfl (andCompare_eq_ite _ (ltUnsigned_iff_lt _ _)), .of_result rfl (andCompare_eq_ite _ (geUnsigned_iff_le _ _)),
    .of_result rfl (orCompare_eq_ite _ beq_iff_eq), .of_result rfl (orCompare_eq_ite _ bne_iff_ne),
    .of_result rfl (orCompare_eq_ite _ (by rw [ltSigned_eq_slt])), .of_result rfl (orCompare_eq_ite _ (by rw [geSigned_eq_sle])),
    .of_result rfl (orCompare_eq_ite _ (ltUnsigned_iff_lt _ _)), .of_result rfl (orCompare_eq_ite _ (geUnsigned_iff_le _ _))⟩

/-- Settles O43: the words are those that the encoder makes, and the sign of register a is its bit 63. -/
theorem selectsComplete : Obligations.SelectsComplete := fun nop _ a b c d =>
  ⟨encodeThenDecode nop (.sel a b c d) rfl, encodeThenDecode nop (.seln a b c d) rfl, encodeThenDecode nop (.selp a b c d) rfl,
    .of_result rfl rfl, .of_result rfl rfl, .of_result rfl rfl,
    .of_result rfl (fnSeln_eq_ite_bit63 _ _ _), .of_result rfl (fnSelp_eq_ite_bit63 _ _ _)⟩

/-- Settles O44: the words are those that the encoder makes, and the low 64 bits of the exact result are those of the sum and the
difference of words. -/
theorem multiplyAddsComplete : Obligations.MultiplyAddsComplete := fun nop _ a b c d =>
  ⟨encodeThenDecode nop (.madd a b c d) rfl, encodeThenDecode nop (.nmadd a b c d) rfl,
    .of_result rfl (fnMadd_eq_ofInt _ _ _), .of_result rfl (fnNmadd_eq_ofInt _ _ _)⟩

end Sys2Proof.Machine

/-! SUPPORT. The floating-point instructions: which member of the record `fp` each one calls, and on what
(44_floating_point.md). -/

namespace Sys2Proof.Machine

open Sys2Proof

/-! ### The register halves and the Boolean results (R351, R352, R374 to R385) -/

theorem lo_eq_setWidth (v : Word) : lo v = v.setWidth 32 := (BitVec.setWidth_eq_extractLsb' (by decide)).symm

theorem singleResult_eq_setWidth (r : BitVec 32) : singleResult r = BitVec.setWidth 64 r := rfl

theorem boolWord_or (p q : Bool) : boolWord (p || q) = if p = true ∨ q = true then 1 else 0 := by
  simp only [boolWord, Bool.or_eq_true]

/-! ### The words of the compares (R116, R121) -/

/-- Of FPU2 the codes 6 and 7 are undefined in both precisions (R121). -/
theorem decode_undefined_compare (nop : Config.NopCode) {f : BitVec 5} (hf : f = 6 ∨ f = 7) (p : BitVec 1) (a b c d : Reg) :
    decode nop (formatFP 43 f p a b c d) = .error (.undefinedFunction 43 f.toNat p.toNat) := by
  have hrefusal : refusalFP (formatFP 43 f p a b c d) = .undefinedFunction 43 f.toNat p.toNat := by simp [refusalFP]
  rw [decode_fpu2 nop (fieldOp_formatFP ..), ← hrefusal]
  refine (decodeFpu2_answer _).refused ?_
  obtain rfl | rfl := hf <;> simp

/-! ### The instructions -/

/-- Settles O45: each instruction is its member of the record; the IEEE instances clear and flip the sign bit. -/
theorem floatOneSource : Obligations.FloatOneSource := by
  refine ⟨fun s a d => ?instructions, fun rm x y => ⟨rfl, rfl, rfl, rfl, rfl⟩⟩
  simp only [← lo_eq_setWidth, ← singleResult_eq_setWidth]
  and_intros
  all_goals exact .of_result rfl rfl

/-- Settles O46: each compare is its member of the record, and the words are those that the encoder makes. -/
theorem floatCompares : Obligations.FloatCompares := by
  refine ⟨fun s a b c d => ?instructions, fun nop a b d => ?words⟩
  case instructions =>
    simp only [← lo_eq_setWidth, ← boolWord_or]
    refine ⟨?eqS, ?neS, ?ltS, ?geS, ?infS, ?nanS, ?eqD, ?neD, ?ltD, ?geD, ?infD, ?nanD, ?andeqS, ?andneS, ?andltS, ?andgeS,
      ?oreqS, ?orneS, ?orltS, ?orgeS, ?andeqD, ?andneD, ?andltD, ?andgeD, ?oreqD, ?orneD, ?orltD, ?orgeD⟩
    case eqS | neS | ltS | geS | infS | nanS | eqD | neD | ltD | geD | infD | nanD => exact .of_result rfl rfl
    case andeqS | andneS | andltS | andgeS | andeqD | andneD | andltD | andgeD =>
      exact .of_result rfl (andCompare_eq_ite _ Iff.rfl)
    case oreqS | orneS | orltS | orgeS | oreqD | orneD | orltD | orgeD => exact .of_result rfl (orCompare_eq_ite _ Iff.rfl)
  case words =>
    exact ⟨encodeThenDecode nop (.eqS a b d) rfl, encodeThenDecode nop (.eqD a b d) rfl, encodeThenDecode nop (.neS a b d) rfl,
      encodeThenDecode nop (.neD a b d) rfl, encodeThenDecode nop (.ltS a b d) rfl, encodeThenDecode nop (.ltD a b d) rfl,
      encodeThenDecode nop (.geS a b d) rfl, encodeThenDecode nop (.geD a b d) rfl, encodeThenDecode nop (.infS a b d) rfl,
      encodeThenDecode nop (.infD a b d) rfl, encodeThenDecode nop (.nanS a b d) rfl, encodeThenDecode nop (.nanD a b d) rfl,
      fun p => ⟨decode_undefined_compare nop (.inl rfl) p a b 0 d, decode_undefined_compare nop (.inr rfl) p a b 0 d⟩⟩

/-- Settles O47: each instruction is its member of the record, and the three-operand members of the IEEE instances are made of
those of two operands. -/
theorem floatArithmetic : Obligations.FloatArithmetic := by
  refine ⟨fun s a b c d => ?instructions, fun _ _ _ _ => ⟨rfl, rfl, rfl, rfl⟩, fun _ _ _ _ => ⟨rfl, rfl, rfl, rfl⟩⟩
  simp only [← lo_eq_setWidth, ← singleResult_eq_setWidth]
  and_intros
  all_goals exact .of_result rfl rfl

end Sys2Proof.Machine

/-! SUPPORT. The binary formats: the fields of a pattern, the numbers that the patterns stand for and their order, and which
numbers have a pattern (R356). -/

namespace Sys2Proof.Machine

open Sys2Proof

/-! ### What the two formats have in common -/

/-- A format of the shape that IEEE 754 gives to its binary formats: at least one fraction bit, and a range in which every whole
number of as many digits as a number keeps has a pattern. -/
structure FpFormat.Regular (F : FpFormat) : Prop where
  two_le_expBits : 2 ≤ F.expBits
  one_le_fracBits : 1 ≤ F.fracBits
  fracBits_le_bias : F.fracBits ≤ F.bias

theorem regular_single : single.Regular := ⟨by decide, by decide, by decide⟩

theorem regular_double : double.Regular := ⟨by decide, by decide, by decide⟩

theorem FpFormat.infinity_add (F : FpFormat) : F.infinity + 2 ^ F.fracBits = F.signBit := by
  have hpos : 0 < 2 ^ F.expBits := Nat.two_pow_pos _
  rw [infinity, topExp, signBit, pow_add, ← Nat.succ_mul, Nat.succ_eq_add_one, Nat.sub_add_cancel hpos]

theorem FpFormat.infinity_lt_signBit (F : FpFormat) : F.infinity < F.signBit := by
  have hpos : 0 < 2 ^ F.fracBits := Nat.two_pow_pos _
  have := F.infinity_add
  omega

section Regular

variable {F : FpFormat} (hF : F.Regular)
include hF

theorem FpFormat.Regular.topExp_eq : F.topExp = 2 * F.bias + 1 := by
  have hsplit : 2 ^ F.expBits = 2 * 2 ^ (F.expBits - 1) := by
    rw [← pow_succ', Nat.sub_add_cancel (by have := hF.two_le_expBits; omega)]
  have hpos : 0 < 2 ^ (F.expBits - 1) := Nat.two_pow_pos _
  rw [topExp, bias, hsplit]
  omega

theorem FpFormat.Regular.two_dvd_pow_fracBits : 2 ∣ 2 ^ F.fracBits := dvd_pow_self 2 (by have := hF.one_le_fracBits; omega)

theorem FpFormat.Regular.two_dvd_infinity : 2 ∣ F.infinity := hF.two_dvd_pow_fracBits.mul_left _

theorem FpFormat.Regular.infinity_pos : 0 < F.infinity := by
  have htop := hF.topExp_eq
  exact Nat.mul_pos (by omega) (Nat.two_pow_pos _)

end Regular

/-! ### The fields of a pattern -/

section Fields

variable (F : FpFormat) (p : Nat)

theorem FpFormat.magnitude_lt : F.magnitude p < F.signBit := Nat.mod_lt _ (Nat.two_pow_pos _)

theorem FpFormat.fracOf_eq : F.fracOf p = F.magnitude p % 2 ^ F.fracBits := by
  rw [fracOf, magnitude, signBit, Nat.mod_mod_of_dvd _ (pow_dvd_pow 2 (by omega))]

theorem FpFormat.expOf_eq : F.expOf p = F.magnitude p / 2 ^ F.fracBits := by
  rw [expOf, magnitude, signBit, Nat.add_comm F.expBits, pow_add, Nat.mod_mul_right_div_self]

theorem FpFormat.expOf_eq_topExp_iff : F.expOf p = F.topExp ↔ F.infinity ≤ F.magnitude p := by
  have hpos : 0 < 2 ^ F.fracBits := Nat.two_pow_pos _
  have hlt : F.magnitude p < (F.topExp + 1) * 2 ^ F.fracBits := by
    rw [Nat.succ_mul, ← infinity, infinity_add]
    exact F.magnitude_lt p
  rw [expOf_eq, infinity, ← Nat.le_div_iff_mul_le hpos]
  have := (Nat.div_lt_iff_lt_mul hpos).2 hlt
  omega

theorem FpFormat.magnitude_eq_infinity_iff : F.expOf p = F.topExp ∧ F.fracOf p = 0 ↔ F.magnitude p = F.infinity := by
  rw [fracOf_eq, expOf_eq, infinity]
  constructor
  · rintro ⟨he, hf⟩
    rw [← he, ← Nat.div_add_mod' (F.magnitude p) (2 ^ F.fracBits), hf]
    simp
  · rintro h
    simp [h]

theorem FpFormat.isInf_iff : F.isInf p = true ↔ F.magnitude p = F.infinity := by
  rw [isInf, Bool.and_eq_true, decide_eq_true_iff, decide_eq_true_iff, magnitude_eq_infinity_iff]

theorem FpFormat.isNan_iff : F.isNan p = true ↔ F.infinity < F.magnitude p := by
  have htop := F.expOf_eq_topExp_iff p
  have hinf := F.magnitude_eq_infinity_iff p
  rw [isNan, Bool.and_eq_true, decide_eq_true_iff, decide_eq_true_iff, lt_iff_le_and_ne, ← htop]
  exact and_congr_right fun he => not_congr ⟨fun hf => (hinf.1 ⟨he, hf⟩).symm, fun hm => (hinf.2 hm.symm).2⟩

/-- A pattern is its sign bit and the rest. -/
theorem FpFormat.eq_sign_add_magnitude {F : FpFormat} {p : Nat} (hp : p < 2 * F.signBit) :
    p = F.sign (F.negOf p) + F.magnitude p := by
  have hdiv := Nat.div_add_mod p F.signBit
  have hlt : p / F.signBit < 2 := Nat.div_lt_of_lt_mul (by rwa [mul_comm])
  rw [sign, negOf, magnitude]
  obtain h | h := Nat.le_one_iff_eq_zero_or_eq_one.1 (Nat.lt_succ_iff.1 hlt)
  · rw [h] at hdiv ⊢
    simpa using hdiv.symm
  · rw [h] at hdiv ⊢
    simpa using hdiv.symm

variable {F} {n : Nat} (neg : Bool) (hn : n < F.signBit)
include hn

@[simp] theorem FpFormat.magnitude_sign_add : F.magnitude (F.sign neg + n) = n := by
  cases neg <;> simp [sign, magnitude, Nat.mod_eq_of_lt hn]

@[simp] theorem FpFormat.negOf_sign_add : F.negOf (F.sign neg + n) = neg := by
  have hpos : 0 < F.signBit := Nat.two_pow_pos _
  cases neg <;> simp [sign, negOf, Nat.div_eq_of_lt hn, Nat.add_div_left _ hpos]

theorem FpFormat.sign_add_lt : F.sign neg + n < 2 * F.signBit := by
  cases neg <;> simp [sign] <;> omega

omit hn in
theorem FpFormat.sign_lt (F : FpFormat) : F.sign neg < 2 * F.signBit := by
  have hpos : 0 < F.signBit := Nat.two_pow_pos _
  exact sign_add_lt (n := 0) neg hpos

end Fields

/-! ### The numbers: `F.size n` is the number of the pattern `n` without a sign -/

/-- The exponent of a pattern without a sign bit, counted from that of the subnormal numbers. -/
def FpFormat.unitExp (F : FpFormat) (n : Nat) : Nat := n / 2 ^ F.fracBits - 1

/-- The digits of a pattern without a sign bit, the leading one among them. -/
def FpFormat.digits (F : FpFormat) (n : Nat) : Nat := n - F.unitExp n * 2 ^ F.fracBits

/-- The number of a pattern without a sign bit, as a multiple of the least one. Patterns above the infinity continue the numbers
as if the format had a greater range. -/
def FpFormat.units (F : FpFormat) (n : Nat) : Nat := F.digits n * 2 ^ F.unitExp n

/-- The number of a pattern without a sign bit. -/
def FpFormat.size {K : Type} [Field K] (F : FpFormat) (n : Nat) : K := F.units n * 2 ^ F.lowest

/-- A magnitude with its sign. -/
def signed {K : Type} [Neg K] (neg : Bool) (x : K) : K := if neg then -x else x

section Signed

theorem signed_eq_mul {K : Type} [Ring K] (neg : Bool) (x : K) : signed neg x = (if neg then -1 else 1) * x := by
  cases neg <;> simp [signed]

theorem abs_signed {K : Type} [Ring K] [LinearOrder K] [IsOrderedRing K] (neg : Bool) {x : K} (hx : 0 ≤ x) :
    |signed neg x| = x := by
  cases neg <;> simp [signed, abs_of_nonneg hx]

theorem signed_mul_signed {K : Type} [Ring K] (n₁ n₂ : Bool) (x y : K) :
    signed n₁ x * signed n₂ y = signed (n₁ ^^ n₂) (x * y) := by
  cases n₁ <;> cases n₂ <;> simp [signed]

theorem signed_div_signed {K : Type} [Field K] (n₁ n₂ : Bool) (x y : K) :
    signed n₁ x / signed n₂ y = signed (n₁ ^^ n₂) (x / y) := by
  cases n₁ <;> cases n₂ <;> simp [signed, div_neg, neg_div]

theorem signed_eq_zero_iff {K : Type} [Ring K] (neg : Bool) (x : K) : signed neg x = 0 ↔ x = 0 := by
  cases neg <;> simp [signed]

theorem eq_false_of_signed_pos {K : Type} [Field K] [LinearOrder K] [IsStrictOrderedRing K] {neg : Bool} {x : K} (hx : 0 ≤ x)
    (h : 0 < signed neg x) : neg = false := by
  cases neg with
  | false => rfl
  | true => exact absurd h (not_lt.2 (neg_nonpos.2 hx))

theorem eq_true_of_signed_neg {K : Type} [Field K] [LinearOrder K] [IsStrictOrderedRing K] {neg : Bool} {x : K} (hx : 0 ≤ x)
    (h : signed neg x < 0) : neg = true := by
  cases neg with
  | false => exact absurd h (not_lt.2 hx)
  | true => rfl

theorem cast_signed (neg : Bool) (x : ℚ) : ((signed neg x : ℚ) : ℝ) = signed neg (x : ℝ) := by
  cases neg <;> simp [signed]

end Signed

section Digits

variable (F : FpFormat)

theorem FpFormat.unitExp_mul_le (n : Nat) : F.unitExp n * 2 ^ F.fracBits ≤ n :=
  (Nat.mul_le_mul_right _ (Nat.sub_le _ _)).trans (Nat.div_mul_le_self _ _)

theorem FpFormat.unitExp_mul_add_digits (n : Nat) : F.unitExp n * 2 ^ F.fracBits + F.digits n = n :=
  Nat.add_sub_cancel' (F.unitExp_mul_le n)

theorem FpFormat.digits_lt (n : Nat) : F.digits n < 2 ^ (F.fracBits + 1) := by
  have hlt : n < (n / 2 ^ F.fracBits + 1) * 2 ^ F.fracBits := by
    rw [mul_comm]; exact Nat.lt_mul_div_succ n (Nat.two_pow_pos _)
  have hexp : n < (F.unitExp n + 2) * 2 ^ F.fracBits := hlt.trans_le (Nat.mul_le_mul_right _ (by rw [unitExp]; omega))
  have hsum := F.unitExp_mul_add_digits n
  rw [add_mul] at hexp
  rw [pow_succ]
  omega

/-- Above the subnormal numbers the leading digit is 1. -/
theorem FpFormat.le_digits {n : Nat} (h : F.unitExp n ≠ 0) : 2 ^ F.fracBits ≤ F.digits n := by
  have hle : (F.unitExp n + 1) * 2 ^ F.fracBits ≤ n := by
    have : F.unitExp n + 1 = n / 2 ^ F.fracBits := by rw [unitExp] at *; omega
    rw [this]
    exact Nat.div_mul_le_self _ _
  have hsum := F.unitExp_mul_add_digits n
  rw [add_mul] at hle
  omega

/-- The number of a pattern that is made of an exponent and digits; a carry out of the digits raises the exponent. -/
theorem FpFormat.units_mul_add {k d : Nat} (hd : d ≤ 2 ^ (F.fracBits + 1)) (hk : k ≠ 0 → 2 ^ F.fracBits ≤ d) :
    F.units (k * 2 ^ F.fracBits + d) = d * 2 ^ k := by
  have hpos : 0 < 2 ^ F.fracBits := Nat.two_pow_pos _
  have hquot : (k * 2 ^ F.fracBits + d) / 2 ^ F.fracBits = k + d / 2 ^ F.fracBits := by
    rw [add_comm, Nat.add_mul_div_right _ _ hpos, add_comm]
  rw [pow_succ] at hd
  rw [units, digits, unitExp, hquot]
  obtain hsub | hnorm | hcarry : d < 2 ^ F.fracBits ∨ (2 ^ F.fracBits ≤ d ∧ d < 2 ^ F.fracBits * 2) ∨ d = 2 ^ F.fracBits * 2 := by
    omega
  · obtain rfl : k = 0 := by
      by_contra h
      have := hk h
      omega
    simp [Nat.div_eq_of_lt hsub]
  · obtain ⟨hle, hlt⟩ := hnorm
    rw [Nat.div_eq_of_lt_le (k := 1) (by omega) (by omega)]
    simp
  · subst hcarry
    have hsucc : k + 2 - 1 = k + 1 := by omega
    rw [Nat.mul_div_cancel_left _ hpos, hsucc, Nat.add_mul, pow_succ]
    have : k * 2 ^ F.fracBits + 2 ^ F.fracBits * 2 - (k * 2 ^ F.fracBits + 1 * 2 ^ F.fracBits) = 2 ^ F.fracBits := by omega
    rw [this]
    ring

theorem FpFormat.units_lt (n : Nat) : F.units n < 2 ^ (F.fracBits + 1 + F.unitExp n) := by
  rw [units, pow_add]
  exact Nat.mul_lt_mul_of_pos_right (F.digits_lt n) (Nat.two_pow_pos _)

/-- From `2^(fracBits + k)` least units on the numbers lie `2^k` units or a multiple of it apart. -/
theorem FpFormat.dvd_units {k n : Nat} (h : k = 0 ∨ 2 ^ (F.fracBits + k) ≤ F.units n) : 2 ^ k ∣ F.units n := by
  obtain rfl | h := h
  · simp
  · have hexp := (Nat.pow_lt_pow_iff_right (by omega)).1 (h.trans_lt (F.units_lt n))
    exact (pow_dvd_pow 2 (by omega)).mul_left _

theorem FpFormat.units_strictMono : StrictMono F.units := by
  intro a b hab
  have hexp : F.unitExp a ≤ F.unitExp b := Nat.sub_le_sub_right (Nat.div_le_div_right hab.le) 1
  obtain heq | hlt := hexp.eq_or_lt
  · have ha := F.unitExp_mul_add_digits a
    have hb := F.unitExp_mul_add_digits b
    rw [heq] at ha
    rw [units, units, heq]
    exact Nat.mul_lt_mul_of_pos_right (by omega) (Nat.two_pow_pos _)
  · calc F.units a < 2 ^ (F.fracBits + 1 + F.unitExp a) := F.units_lt a
      _ ≤ 2 ^ (F.fracBits + F.unitExp b) := Nat.pow_le_pow_right (by omega) (by omega)
      _ = 2 ^ F.fracBits * 2 ^ F.unitExp b := pow_add _ _ _
      _ ≤ F.units b := Nat.mul_le_mul_right _ (F.le_digits (by omega))

@[simp] theorem FpFormat.units_zero : F.units 0 = 0 := by simp [units, digits]

end Digits

section Size

variable {K : Type} [Field K] [LinearOrder K] [IsStrictOrderedRing K] (F : FpFormat)

theorem FpFormat.size_strictMono : StrictMono (F.size : Nat → K) := fun _ _ h =>
  mul_lt_mul_of_pos_right (Nat.cast_lt.2 (F.units_strictMono h)) (by positivity)

@[simp] theorem FpFormat.size_zero : F.size 0 = (0 : K) := by simp [size]

theorem FpFormat.size_nonneg (n : Nat) : 0 ≤ (F.size n : K) := by
  rw [size]
  positivity

theorem FpFormat.cast_size (n : Nat) : ((F.size n : ℚ) : ℝ) = F.size n := by simp [size]

/-- Digits and an exponent at the scale of the format. -/
theorem FpFormat.size_mul_add {k d : Nat} (hd : d ≤ 2 ^ (F.fracBits + 1)) (hk : k ≠ 0 → 2 ^ F.fracBits ≤ d) :
    (F.size (k * 2 ^ F.fracBits + d) : K) = d * 2 ^ (F.lowest + k) := by
  rw [size, F.units_mul_add hd hk, zpow_add₀ two_ne_zero]
  push_cast
  rw [zpow_natCast]
  ring

theorem FpFormat.size_eq_digits (n : Nat) : (F.size n : K) = F.digits n * 2 ^ (F.lowest + F.unitExp n) := by
  rw [size, units, zpow_add₀ two_ne_zero]
  push_cast
  rw [zpow_natCast]
  ring

/-- The infinity stands where the next power of two would. -/
theorem FpFormat.Regular.size_infinity {F : FpFormat} (hF : F.Regular) : (F.size F.infinity : K) = 2 ^ ((F.bias : ℤ) + 1) := by
  have htop := hF.topExp_eq
  have hinf : F.infinity = (F.topExp - 1) * 2 ^ F.fracBits + 2 ^ F.fracBits := by
    rw [infinity, ← Nat.succ_mul, Nat.succ_eq_add_one, Nat.sub_add_cancel (by omega)]
  rw [hinf, F.size_mul_add (by rw [pow_succ]; omega) (fun _ => le_rfl)]
  push_cast
  rw [← zpow_natCast, ← zpow_add₀ two_ne_zero]
  congr 1
  rw [lowest]
  omega

/-- Every number with few enough digits that is no part of the least one has a pattern. -/
theorem FpFormat.exists_size_eq {m : Nat} {q : ℤ} (hm : m ≤ 2 ^ (F.fracBits + 1)) (hq : F.lowest ≤ q) :
    ∃ n, (F.size n : K) = m * 2 ^ q := by
  obtain ⟨k, rfl⟩ : ∃ k : Nat, q = F.lowest + k := ⟨(q - F.lowest).toNat, by omega⟩
  clear hq
  induction k generalizing m with
  | zero => exact ⟨0 * 2 ^ F.fracBits + m, F.size_mul_add hm (absurd rfl)⟩
  | succ k ih =>
    by_cases hlow : 2 ^ F.fracBits ≤ m
    · exact ⟨_, F.size_mul_add hm fun _ => hlow⟩
    · obtain ⟨n, hn⟩ := ih (m := m * 2) (by rw [pow_succ]; omega)
      refine ⟨n, hn.trans ?_⟩
      push_cast
      rw [← add_assoc, zpow_add_one₀ two_ne_zero]
      ring

/-- The same within the range of the format. -/
theorem FpFormat.Regular.exists_lt_infinity_size_eq {F : FpFormat} (hF : F.Regular) {m : Nat} {q : ℤ}
    (hm : m ≤ 2 ^ (F.fracBits + 1)) (hq : F.lowest ≤ q) (hlt : (m : K) * 2 ^ q < 2 ^ ((F.bias : ℤ) + 1)) :
    ∃ n < F.infinity, (F.size n : K) = m * 2 ^ q := by
  obtain ⟨n, hn⟩ := F.exists_size_eq (K := K) hm hq
  exact ⟨n, (F.size_strictMono (K := K)).lt_iff_lt.1 (by rwa [hn, hF.size_infinity]), hn⟩

end Size

/-! ### What a pattern stands for -/

section Value

variable {F : FpFormat} {p : Nat}

theorem FpFormat.value_of_isNan (h : F.isNan p = true) : F.value p = .nan := by
  simp only [isNan, Bool.and_eq_true, decide_eq_true_iff] at h
  obtain ⟨he, hf⟩ := h
  rw [value, if_pos he, if_neg hf]

theorem FpFormat.value_of_isInf (h : F.isInf p = true) : F.value p = .inf (F.negOf p) := by
  simp only [isInf, Bool.and_eq_true, decide_eq_true_iff] at h
  obtain ⟨he, hf⟩ := h
  rw [value, if_pos he, if_pos hf]

theorem FpFormat.value_of_lt (h : F.magnitude p < F.infinity) :
    F.value p = .num (F.negOf p) (F.digits (F.magnitude p)) (F.lowest + F.unitExp (F.magnitude p)) := by
  have hnot : F.expOf p ≠ F.topExp := fun he => absurd ((F.expOf_eq_topExp_iff p).1 he) (not_le.2 h)
  have hdiv := Nat.div_add_mod' (F.magnitude p) (2 ^ F.fracBits)
  have hsum := F.unitExp_mul_add_digits (F.magnitude p)
  rw [value, if_neg hnot, unitExp, expOf_eq, fracOf_eq]
  rw [unitExp] at hsum
  split
  next h0 =>
    rw [h0] at hdiv hsum ⊢
    simp only [Nat.zero_mul, Nat.zero_add, Nat.zero_sub] at hdiv hsum
    rw [hdiv, hsum]
    simp
  next h0 =>
    obtain ⟨e, he⟩ := Nat.exists_eq_succ_of_ne_zero h0
    rw [he, Nat.succ_mul] at hdiv
    rw [he, Nat.succ_sub_one] at hsum
    rw [he, Nat.succ_sub_one]
    congr 1
    omega

/-- Every pattern is a NaN, an infinity or a number, by its magnitude. -/
theorem FpFormat.value_cases (F : FpFormat) (p : Nat) :
    (F.isNan p = true ∧ F.value p = .nan) ∨ (F.isInf p = true ∧ F.value p = .inf (F.negOf p)) ∨
      (F.magnitude p < F.infinity ∧
        F.value p = .num (F.negOf p) (F.digits (F.magnitude p)) (F.lowest + F.unitExp (F.magnitude p))) := by
  obtain h | h | h := lt_trichotomy (F.magnitude p) F.infinity
  · exact .inr (.inr ⟨h, value_of_lt h⟩)
  · have hinf := (F.isInf_iff p).2 h
    exact .inr (.inl ⟨hinf, value_of_isInf hinf⟩)
  · have hnan := (F.isNan_iff p).2 h
    exact .inl ⟨hnan, value_of_isNan hnan⟩

theorem FpFormat.value_sign_add_infinity (neg : Bool) : F.value (F.sign neg + F.infinity) = .inf neg := by
  have hlt := F.infinity_lt_signBit
  have hinf : F.isInf (F.sign neg + F.infinity) = true := (F.isInf_iff _).2 (magnitude_sign_add neg hlt)
  rw [value_of_isInf hinf, negOf_sign_add neg hlt]

theorem FpFormat.number_of_lt (h : F.magnitude p < F.infinity) :
    F.number p = some (signed (F.negOf p) (F.size (F.magnitude p))) := by
  rw [number, value_of_lt h, signed_eq_mul, size_eq_digits]
  simp only [mul_assoc]

theorem FpFormat.number_eq_some_iff {x : ℚ} :
    F.number p = some x ↔ F.magnitude p < F.infinity ∧ x = signed (F.negOf p) (F.size (F.magnitude p)) := by
  refine ⟨fun h => ?_, fun ⟨hlt, hx⟩ => hx ▸ number_of_lt hlt⟩
  obtain ⟨-, hv⟩ | ⟨-, hv⟩ | ⟨hlt, hv⟩ := F.value_cases p
  · rw [number, hv] at h; cases h
  · rw [number, hv] at h; cases h
  · rw [number_of_lt hlt] at h
    cases h
    exact ⟨hlt, rfl⟩

/-- A pattern that stands for a number, in the form in which the operations take it. -/
theorem FpFormat.value_of_number {x : ℚ} (h : F.number p = some x) :
    ∃ m q, F.value p = .num (F.negOf p) m q ∧ (m : ℚ) * 2 ^ q = F.size (F.magnitude p) ∧
      x = signed (F.negOf p) ((m : ℚ) * 2 ^ q) ∧ m < 2 ^ (F.fracBits + 1) ∧ F.lowest ≤ q ∧ F.magnitude p < F.infinity := by
  obtain ⟨hlt, rfl⟩ := number_eq_some_iff.1 h
  exact ⟨_, _, value_of_lt hlt, (F.size_eq_digits _).symm, by rw [← size_eq_digits], F.digits_lt _, by omega, hlt⟩

theorem FpFormat.number_sign_add {n : Nat} (neg : Bool) (hn : n < F.infinity) :
    F.number (F.sign neg + n) = some (signed neg (F.size n)) := by
  have hlt := hn.trans F.infinity_lt_signBit
  have hnum := number_of_lt (F := F) (p := F.sign neg + n) (by rwa [magnitude_sign_add neg hlt])
  rwa [magnitude_sign_add neg hlt, negOf_sign_add neg hlt] at hnum

/-- Two patterns with one sign that stand for one number are equal. -/
theorem FpFormat.eq_of_number_eq {p' : Nat} {x : ℚ} (hp : p < 2 * F.signBit) (hp' : p' < 2 * F.signBit)
    (hneg : F.negOf p = F.negOf p')
    (h : F.number p = some x) (h' : F.number p' = some x) : p = p' := by
  obtain ⟨-, hx⟩ := number_eq_some_iff.1 h
  obtain ⟨-, hx'⟩ := number_eq_some_iff.1 h'
  have habs : (F.size (F.magnitude p) : ℚ) = F.size (F.magnitude p') := by
    rw [← abs_signed (F.negOf p) (F.size_nonneg _), ← hx, hx', abs_signed _ (F.size_nonneg _)]
  rw [eq_sign_add_magnitude hp, eq_sign_add_magnitude hp', hneg, F.size_strictMono.injective habs]

end Value

end Sys2Proof.Machine

/-! SUPPORT. Rounding: what `scaled` and `round` make of a number in every mode, and that rounding to nearest, ties to even, is
correct rounding of real numbers (R356, R357). -/

namespace Sys2Proof.Machine

open Sys2Proof Config

/-! ### Powers of two -/

section Powers

variable {K : Type} [Field K] [LinearOrder K] [IsStrictOrderedRing K]

/-- Two powers of two, compared in natural numbers. -/
theorem two_zpow_cross (q t : ℤ) : (2 : K) ^ (q - t).toNat * 2 ^ t = 2 ^ q * 2 ^ (t - q).toNat := by
  rw [← zpow_natCast, ← zpow_natCast, ← zpow_add₀ two_ne_zero, ← zpow_add₀ two_ne_zero]
  congr 1
  omega

theorem two_zpow_eq_mul {t u : ℤ} (h : u ≤ t) : (2 : K) ^ t = 2 ^ (t - u).toNat * 2 ^ u := by
  rw [← zpow_natCast, ← zpow_add₀ two_ne_zero]
  congr 1
  omega

end Powers

theorem lt_two_pow_bitLength (m : Nat) : m < 2 ^ bitLength m := by
  rw [bitLength]
  split
  · simp [*]
  · exact Nat.lt_log2_self

theorem two_pow_le_of_bitLength {m k : Nat} (hm : m ≠ 0) (hk : k + 1 = bitLength m) : 2 ^ k ≤ m := by
  rw [bitLength, if_neg hm] at hk
  exact (Nat.le_log2 hm).1 (by omega)

/-! ### `roundShift`: the digits below `2^k` are rounded away (R357) -/

section RoundShift

variable {rm : RoundingMode} {neg : Bool} {m k : Nat}

/-- The quotient is rounded up only when something is left over. -/
theorem roundShift_cases (rm : RoundingMode) (neg : Bool) (m k : Nat) :
    (roundsUp rm neg (m / 2 ^ k) (m % 2 ^ k) k = false ∧ roundShift rm neg m k = m / 2 ^ k) ∨
      (roundsUp rm neg (m / 2 ^ k) (m % 2 ^ k) k = true ∧ m % 2 ^ k ≠ 0 ∧ roundShift rm neg m k = m / 2 ^ k + 1) := by
  have hpos : 0 < 2 ^ k := Nat.two_pow_pos k
  rw [roundShift]
  cases h : roundsUp rm neg (m / 2 ^ k) (m % 2 ^ k) k with
  | false => exact .inl ⟨rfl, rfl⟩
  | true =>
    refine .inr ⟨rfl, fun h0 => ?_, rfl⟩
    rw [h0] at h
    cases rm <;> simp [roundsUp] at h
    omega

theorem roundShift_le {c : Nat} (h : m ≤ c * 2 ^ k) : roundShift rm neg m k ≤ c := by
  have hdiv := Nat.div_add_mod' m (2 ^ k)
  have hle : m / 2 ^ k ≤ c := Nat.div_le_of_le_mul (by rwa [mul_comm])
  obtain ⟨-, hs⟩ | ⟨-, hr, hs⟩ := roundShift_cases rm neg m k
  · omega
  · obtain heq | hlt := hle.eq_or_lt
    · rw [heq] at hdiv
      omega
    · omega

theorem le_roundShift {c : Nat} (h : c * 2 ^ k ≤ m) : c ≤ roundShift rm neg m k := by
  have hle : c ≤ m / 2 ^ k := (Nat.le_div_iff_mul_le (Nat.two_pow_pos k)).2 h
  obtain ⟨-, hs⟩ | ⟨-, -, hs⟩ := roundShift_cases rm neg m k <;> omega

/-- A mode that does not round up takes the quotient. -/
theorem roundShift_down (h : ∀ d r, roundsUp rm neg d r k = false) :
    roundShift rm neg m k * 2 ^ k ≤ m ∧ m < roundShift rm neg m k * 2 ^ k + 2 ^ k := by
  have hdiv := Nat.div_add_mod' m (2 ^ k)
  have hlt := Nat.mod_lt m (Nat.two_pow_pos k)
  obtain ⟨-, hs⟩ | ⟨hup, -⟩ := roundShift_cases rm neg m k
  · rw [hs]
    omega
  · rw [h] at hup
    cases hup

/-- A mode that rounds up whatever is left over takes the quotient rounded up. -/
theorem roundShift_up (h : ∀ d r, roundsUp rm neg d r k = decide (r ≠ 0)) :
    m ≤ roundShift rm neg m k * 2 ^ k ∧ roundShift rm neg m k * 2 ^ k < m + 2 ^ k := by
  have hdiv := Nat.div_add_mod' m (2 ^ k)
  have hlt := Nat.mod_lt m (Nat.two_pow_pos k)
  obtain ⟨hup, hs⟩ | ⟨-, hr, hs⟩ := roundShift_cases rm neg m k
  · rw [h, decide_eq_false_iff_not, not_not] at hup
    rw [hs]
    omega
  · rw [hs, add_mul]
    omega

/-- Rounding to nearest, ties to even, in numbers twice as large. -/
theorem roundShift_nearestEven :
    2 * m ≤ (2 * roundShift .nearestEven neg m k + 1) * 2 ^ k ∧ 2 * roundShift .nearestEven neg m k * 2 ^ k ≤ 2 * m + 2 ^ k ∧
      (2 * m = (2 * roundShift .nearestEven neg m k + 1) * 2 ^ k ∨ 2 * roundShift .nearestEven neg m k * 2 ^ k = 2 * m + 2 ^ k →
        roundShift .nearestEven neg m k % 2 = 0) := by
  have hdiv := Nat.div_add_mod' m (2 ^ k)
  have hlt := Nat.mod_lt m (Nat.two_pow_pos k)
  obtain ⟨hup, hs⟩ | ⟨hup, -, hs⟩ := roundShift_cases .nearestEven neg m k
  · rw [roundsUp, decide_eq_false_iff_not] at hup
    rw [hs, add_mul, mul_assoc]
    omega
  · rw [roundsUp, decide_eq_true_iff] at hup
    rw [hs, add_mul, mul_assoc, add_mul]
    omega

/-- Rounding to nearest, ties away from zero, in numbers twice as large. -/
theorem roundShift_nearestAway :
    2 * m < (2 * roundShift .nearestAway neg m k + 1) * 2 ^ k ∧ 2 * roundShift .nearestAway neg m k * 2 ^ k ≤ 2 * m + 2 ^ k := by
  have hdiv := Nat.div_add_mod' m (2 ^ k)
  have hlt := Nat.mod_lt m (Nat.two_pow_pos k)
  obtain ⟨hup, hs⟩ | ⟨hup, -, hs⟩ := roundShift_cases .nearestAway neg m k
  · rw [roundsUp, decide_eq_false_iff_not] at hup
    rw [hs, add_mul, mul_assoc]
    omega
  · rw [roundsUp, decide_eq_true_iff] at hup
    rw [hs, add_mul, mul_assoc, add_mul]
    omega

end RoundShift

/-! ### `scaled`: the same for any power of two -/

/-- The two cases of `scaled` are one: where no digit is lost there is nothing to round. -/
theorem scaled_eq_roundShift (rm : RoundingMode) (neg : Bool) (m : Nat) (q t : ℤ) :
    scaled rm neg m q t = roundShift rm neg (m * 2 ^ (q - t).toNat) (t - q).toNat := by
  rw [scaled]
  split
  next h =>
    have h0 : (t - q).toNat = 0 := by omega
    rw [h0]
    exact le_antisymm (le_roundShift (by simp)) (roundShift_le (by simp))
  next h =>
    have h0 : (q - t).toNat = 0 := by omega
    rw [h0, pow_zero, mul_one]

section Scaled

variable {K : Type} [Field K] [LinearOrder K] [IsStrictOrderedRing K] {rm : RoundingMode} {neg : Bool} {m : Nat} {q t : ℤ}

/-- Two multiples of the powers `2^q` and `2^t`, compared in whole numbers. -/
theorem mul_zpow_le_iff (a b : ℤ) : (a : K) * 2 ^ q ≤ b * 2 ^ t ↔ a * 2 ^ (q - t).toNat ≤ b * 2 ^ (t - q).toNat := by
  have hq : (0 : K) < 2 ^ (t - q).toNat := by positivity
  have ht : (0 : K) < 2 ^ t := by positivity
  have ha : (a : K) * 2 ^ q * 2 ^ (t - q).toNat = (a * 2 ^ (q - t).toNat : ℤ) * 2 ^ t := by
    push_cast
    rw [mul_assoc, ← two_zpow_cross, mul_assoc]
  have hb : (b : K) * 2 ^ t * 2 ^ (t - q).toNat = (b * 2 ^ (t - q).toNat : ℤ) * 2 ^ t := by
    push_cast
    ring
  rw [← mul_le_mul_iff_left₀ hq, ha, hb, mul_le_mul_iff_left₀ ht, Int.cast_le]

theorem mul_zpow_lt_iff (a b : ℤ) : (a : K) * 2 ^ q < b * 2 ^ t ↔ a * 2 ^ (q - t).toNat < b * 2 ^ (t - q).toNat := by
  rw [← not_le, mul_zpow_le_iff, not_le]

theorem mul_zpow_eq_iff (a b : ℤ) : (a : K) * 2 ^ q = b * 2 ^ t ↔ a * 2 ^ (q - t).toNat = b * 2 ^ (t - q).toNat := by
  rw [le_antisymm_iff, mul_zpow_le_iff, mul_zpow_le_iff, ← le_antisymm_iff]

theorem scaled_le {c : Nat} (h : (m : K) * 2 ^ q ≤ c * 2 ^ t) : scaled rm neg m q t ≤ c := by
  rw [scaled_eq_roundShift]
  exact roundShift_le (by exact_mod_cast (mul_zpow_le_iff (K := K) (m : ℤ) (c : ℤ)).1 (by exact_mod_cast h))

theorem le_scaled {c : Nat} (h : (c : K) * 2 ^ t ≤ m * 2 ^ q) : c ≤ scaled rm neg m q t := by
  rw [scaled_eq_roundShift]
  exact le_roundShift (by exact_mod_cast (mul_zpow_le_iff (K := K) (c : ℤ) (m : ℤ)).1 (by exact_mod_cast h))

/-- A multiple of `2^t` is not changed, whatever the mode. -/
theorem scaled_of_eq {c : Nat} (h : (m : K) * 2 ^ q = c * 2 ^ t) : scaled rm neg m q t = c :=
  le_antisymm (scaled_le h.le) (le_scaled h.ge)

theorem scaled_down (h : ∀ d r k, roundsUp rm neg d r k = false) :
    (scaled rm neg m q t : K) * 2 ^ t ≤ m * 2 ^ q ∧ (m : K) * 2 ^ q < (scaled rm neg m q t + 1) * 2 ^ t := by
  obtain ⟨hle, hlt⟩ := roundShift_down (m := m * 2 ^ (q - t).toNat) (k := (t - q).toNat) fun d r => h d r _
  rw [← scaled_eq_roundShift] at hle hlt
  have hle' := (mul_zpow_le_iff (K := K) (scaled rm neg m q t : ℤ) (m : ℤ)).2 (by exact_mod_cast hle)
  have hlt' := (mul_zpow_lt_iff (K := K) (m : ℤ) (scaled rm neg m q t + 1 : ℤ)).2 (by rw [add_mul, one_mul]; exact_mod_cast hlt)
  exact ⟨by exact_mod_cast hle', by exact_mod_cast hlt'⟩

theorem scaled_up (h : ∀ d r k, roundsUp rm neg d r k = decide (r ≠ 0)) :
    (m : K) * 2 ^ q ≤ scaled rm neg m q t * 2 ^ t ∧ (scaled rm neg m q t - 1 : K) * 2 ^ t < m * 2 ^ q := by
  obtain ⟨hle, hlt⟩ := roundShift_up (m := m * 2 ^ (q - t).toNat) (k := (t - q).toNat) fun d r => h d r _
  rw [← scaled_eq_roundShift] at hle hlt
  have hle' := (mul_zpow_le_iff (K := K) (m : ℤ) (scaled rm neg m q t : ℤ)).2 (by exact_mod_cast hle)
  have hlt' := (mul_zpow_lt_iff (K := K) (scaled rm neg m q t - 1 : ℤ) (m : ℤ)).2
    (by rw [sub_mul, one_mul, sub_lt_iff_lt_add]; exact_mod_cast hlt)
  exact ⟨by exact_mod_cast hle', by exact_mod_cast hlt'⟩

/-- Rounding to nearest, ties to even: the number lies between the two halfway points around the result, and at one of them only
when the result is even. -/
theorem scaled_nearestEven :
    (2 * m : K) * 2 ^ q ≤ (2 * scaled .nearestEven neg m q t + 1) * 2 ^ t ∧
      (2 * scaled .nearestEven neg m q t - 1 : K) * 2 ^ t ≤ (2 * m) * 2 ^ q ∧
      ((2 * m : K) * 2 ^ q = (2 * scaled .nearestEven neg m q t + 1) * 2 ^ t ∨
        (2 * m : K) * 2 ^ q = (2 * scaled .nearestEven neg m q t - 1) * 2 ^ t → scaled .nearestEven neg m q t % 2 = 0) := by
  obtain ⟨hle, hge, htie⟩ := roundShift_nearestEven (neg := neg) (m := m * 2 ^ (q - t).toNat) (k := (t - q).toNat)
  rw [← scaled_eq_roundShift, ← mul_assoc] at hle hge htie
  have hle' := mul_zpow_le_iff (K := K) (q := q) (t := t) (2 * m) (2 * scaled .nearestEven neg m q t + 1)
  have hge' := mul_zpow_le_iff (K := K) (q := t) (t := q) (2 * scaled .nearestEven neg m q t - 1) (2 * m)
  have heq' := mul_zpow_eq_iff (K := K) (q := q) (t := t) (2 * m) (2 * scaled .nearestEven neg m q t + 1)
  have heq'' := mul_zpow_eq_iff (K := K) (q := q) (t := t) (2 * m) (2 * scaled .nearestEven neg m q t - 1)
  rw [sub_mul, one_mul, sub_le_iff_le_add] at hge'
  rw [sub_mul (2 * (scaled .nearestEven neg m q t : ℤ)), one_mul, eq_sub_iff_add_eq] at heq''
  push_cast at hle' hge' heq' heq''
  refine ⟨hle'.2 (by exact_mod_cast hle), hge'.2 (by exact_mod_cast hge), fun h => htie ?_⟩
  rw [heq', heq''] at h
  exact h.imp (fun h => by exact_mod_cast h) (fun h => by exact_mod_cast h.symm)

theorem scaled_nearestAway :
    (2 * m : K) * 2 ^ q < (2 * scaled .nearestAway neg m q t + 1) * 2 ^ t ∧
      (2 * scaled .nearestAway neg m q t - 1 : K) * 2 ^ t ≤ (2 * m) * 2 ^ q := by
  obtain ⟨hlt, hge⟩ := roundShift_nearestAway (neg := neg) (m := m * 2 ^ (q - t).toNat) (k := (t - q).toNat)
  rw [← scaled_eq_roundShift, ← mul_assoc] at hlt hge
  have hlt' := mul_zpow_lt_iff (K := K) (q := q) (t := t) (2 * m) (2 * scaled .nearestAway neg m q t + 1)
  have hge' := mul_zpow_le_iff (K := K) (q := t) (t := q) (2 * scaled .nearestAway neg m q t - 1) (2 * m)
  rw [sub_mul, one_mul, sub_le_iff_le_add] at hge'
  push_cast at hlt' hge'
  exact ⟨hlt'.2 (by exact_mod_cast hlt), hge'.2 (by exact_mod_cast hge)⟩

end Scaled

/-! ### `round`: the pattern without its sign, before the range is looked at -/

/-- The pattern that `round` makes of a magnitude in a format without end. -/
def FpFormat.roundedMagnitude (F : FpFormat) (rm : RoundingMode) (neg : Bool) (m : Nat) (q : ℤ) : Nat :=
  (F.keptFrom m q - F.lowest).toNat * 2 ^ F.fracBits + scaled rm neg m q (F.keptFrom m q)

theorem FpFormat.round_zero (F : FpFormat) (rm : RoundingMode) (neg : Bool) (q : ℤ) : F.round rm neg 0 q = F.sign neg := by
  simp [round]

theorem FpFormat.round_of_ne_zero (F : FpFormat) (rm : RoundingMode) (neg : Bool) {m : Nat} (hm : m ≠ 0) (q : ℤ) :
    F.round rm neg m q = F.sign neg +
      if F.roundedMagnitude rm neg m q < F.infinity then F.roundedMagnitude rm neg m q else F.overflow rm neg :=
  if_neg hm

theorem FpFormat.overflow_le (F : FpFormat) (rm : RoundingMode) (neg : Bool) : F.overflow rm neg ≤ F.infinity := by
  unfold overflow
  split <;> (try split) <;> omega

/-- A rounded number is its sign bit and a magnitude of the format. -/
theorem FpFormat.exists_round_eq (F : FpFormat) (rm : RoundingMode) (neg : Bool) (m : Nat) (q : ℤ) :
    ∃ n, F.round rm neg m q = F.sign neg + n ∧ n < F.signBit := by
  have hinf := F.infinity_lt_signBit
  by_cases hm : m = 0
  · exact ⟨0, by rw [hm, round_zero, add_zero], by omega⟩
  · refine ⟨_, F.round_of_ne_zero rm neg hm q, ?_⟩
    have := F.overflow_le rm neg
    split_ifs <;> omega

theorem FpFormat.round_lt (F : FpFormat) (rm : RoundingMode) (neg : Bool) (m : Nat) (q : ℤ) :
    F.round rm neg m q < 2 * F.signBit := by
  obtain ⟨n, hn, hlt⟩ := F.exists_round_eq rm neg m q
  exact hn ▸ sign_add_lt neg hlt

section Kept

variable {K : Type} [Field K] [LinearOrder K] [IsStrictOrderedRing K] (F : FpFormat) {m : Nat} {q : ℤ}

theorem FpFormat.lowest_le_keptFrom (m : Nat) (q : ℤ) : F.lowest ≤ F.keptFrom m q := le_max_right _ _

theorem FpFormat.le_keptFrom (m : Nat) (q : ℤ) : q + bitLength m ≤ F.keptFrom m q + (F.fracBits + 1) := by
  have := le_max_left (q + (bitLength m : ℤ) - (F.fracBits + 1 : Nat)) F.lowest
  rw [keptFrom]
  push_cast at *
  omega

/-- The number has at most `fracBits + 1` digits from the lowest one kept on. -/
theorem FpFormat.lt_keptFrom (m : Nat) (q : ℤ) :
    (m : K) * 2 ^ q < (2 ^ (F.fracBits + 1) : Nat) * 2 ^ F.keptFrom m q := by
  have hm : (m : K) < 2 ^ bitLength m := by exact_mod_cast lt_two_pow_bitLength m
  calc (m : K) * 2 ^ q < 2 ^ bitLength m * 2 ^ q := mul_lt_mul_of_pos_right hm (by positivity)
    _ = 2 ^ (q + bitLength m) := by rw [zpow_add₀ two_ne_zero, zpow_natCast, mul_comm]
    _ ≤ 2 ^ (F.keptFrom m q + (F.fracBits + 1)) := zpow_le_zpow_right₀ one_le_two (F.le_keptFrom m q)
    _ = (2 ^ (F.fracBits + 1) : Nat) * 2 ^ F.keptFrom m q := by
      rw [zpow_add₀ two_ne_zero, mul_comm]
      push_cast
      rw [← zpow_natCast]
      push_cast
      rfl

/-- When the least unit is not what limits the digits, all `fracBits + 1` of them are there. -/
theorem FpFormat.exists_leading_digit (hm : m ≠ 0) (h : F.keptFrom m q ≠ F.lowest) :
    ∃ k : Nat, 2 ^ k ≤ m ∧ k + 1 = bitLength m ∧ q + k = F.keptFrom m q + F.fracBits := by
  have hlen : bitLength m ≠ 0 := by rw [bitLength, if_neg hm]; omega
  obtain ⟨k, hk⟩ := Nat.exists_eq_succ_of_ne_zero hlen
  refine ⟨k, two_pow_le_of_bitLength hm hk.symm, hk.symm, ?_⟩
  have hmax := (max_choice (q + (bitLength m : ℤ) - (F.fracBits + 1 : Nat)) F.lowest).resolve_right h
  rw [keptFrom, hmax, hk]
  push_cast
  ring

theorem FpFormat.keptFrom_le (hm : m ≠ 0) (h : F.keptFrom m q ≠ F.lowest) :
    ((2 ^ F.fracBits : Nat) : K) * 2 ^ F.keptFrom m q ≤ m * 2 ^ q := by
  obtain ⟨k, hk, -, hq⟩ := F.exists_leading_digit hm h
  have hk' : (2 : K) ^ k ≤ m := by exact_mod_cast hk
  calc ((2 ^ F.fracBits : Nat) : K) * 2 ^ F.keptFrom m q = 2 ^ (F.keptFrom m q + F.fracBits) := by
        rw [zpow_add₀ two_ne_zero, zpow_natCast, mul_comm]; push_cast; rfl
    _ = 2 ^ k * 2 ^ q := by rw [← hq, zpow_add₀ two_ne_zero, zpow_natCast, mul_comm]
    _ ≤ m * 2 ^ q := mul_le_mul_of_nonneg_right hk' (by positivity)

/-- The rounded pattern stands for what `scaled` makes of the number. -/
theorem FpFormat.size_roundedMagnitude {rm : RoundingMode} {neg : Bool} (hm : m ≠ 0) :
    (F.size (F.roundedMagnitude rm neg m q) : K) = scaled rm neg m q (F.keptFrom m q) * 2 ^ F.keptFrom m q := by
  have hlow := F.lowest_le_keptFrom m q
  rw [roundedMagnitude, F.size_mul_add (scaled_le (F.lt_keptFrom (K := ℚ) m q).le)]
  · congr 2
    omega
  · intro hk
    exact le_scaled (F.keptFrom_le (K := ℚ) hm (by omega))

end Kept

/-- From `2^fracBits` units of `2^t` on every number of the format is a multiple of `2^t`. -/
theorem FpFormat.exists_size_eq_mul {K : Type} [Field K] [LinearOrder K] [IsStrictOrderedRing K] (F : FpFormat) {t : ℤ} {n : Nat}
    (ht : F.lowest ≤ t) (h : t ≠ F.lowest → ((2 ^ F.fracBits : Nat) : K) * 2 ^ t ≤ F.size n) :
    ∃ c : Nat, (F.size n : K) = c * 2 ^ t := by
  obtain ⟨k, rfl⟩ : ∃ k : Nat, t = F.lowest + k := ⟨(t - F.lowest).toNat, by omega⟩
  have hdvd : 2 ^ k ∣ F.units n := by
    refine F.dvd_units (or_iff_not_imp_left.2 fun hk => ?_)
    have hle := h (by omega)
    rw [size, zpow_add₀ two_ne_zero, mul_comm (2 ^ F.lowest), ← mul_assoc, mul_le_mul_iff_left₀ (by positivity),
      zpow_natCast] at hle
    rw [pow_add]
    exact_mod_cast hle
  obtain ⟨c, hc⟩ := hdvd
  refine ⟨c, ?_⟩
  rw [size, hc, zpow_add₀ two_ne_zero, zpow_natCast]
  push_cast
  ring

/-- A number that has a pattern is rounded to that pattern, whatever the mode. -/
theorem FpFormat.round_of_size_eq {F : FpFormat} (rm : RoundingMode) (neg : Bool) {m n : Nat} {q : ℤ} (hn : n < F.infinity)
    (h : (m : ℚ) * 2 ^ q = F.size n) : F.round rm neg m q = F.sign neg + n := by
  by_cases hm : m = 0
  · subst hm
    have h0 : n = 0 := (F.size_strictMono (K := ℚ)).injective (by rw [← h]; simp)
    rw [round_zero, h0, add_zero]
  · obtain ⟨c, hc⟩ := F.exists_size_eq_mul (K := ℚ) (n := n) (F.lowest_le_keptFrom m q) fun hlow => h ▸ F.keptFrom_le hm hlow
    have hsize := F.size_roundedMagnitude (K := ℚ) (rm := rm) (neg := neg) (q := q) hm
    rw [scaled_of_eq (h.trans hc), ← hc] at hsize
    rw [F.round_of_ne_zero rm neg hm, (F.size_strictMono (K := ℚ)).injective hsize, if_pos hn]

/-! ### Rounding to nearest, ties to even, is correct rounding -/

/-- Of the numbers of a format without end the pattern `n` stands for one nearest to `x`, and it is even when there is another. -/
def FpFormat.Nearest (F : FpFormat) (x : ℝ) (n : Nat) : Prop :=
  ∀ i, |F.size n - x| ≤ |F.size i - x| ∧ (|F.size n - x| = |F.size i - x| → i ≠ n → n % 2 = 0)

section SignedDistance

variable {K : Type} [Field K] [LinearOrder K]

theorem abs_signed_sub_signed (neg : Bool) (y x : K) : |signed neg y - signed neg x| = |y - x| := by
  cases neg with
  | false => rfl
  | true => rw [signed, signed, if_pos rfl, if_pos rfl, neg_sub_neg, abs_sub_comm]

theorem abs_signed_not_sub_signed [IsStrictOrderedRing K] (neg : Bool) {y x : K} (hy : 0 ≤ y) (hx : 0 ≤ x) :
    |signed (!neg) y - signed neg x| = y + x := by
  cases neg with
  | false => rw [signed, signed, if_pos (by rfl), if_neg (by decide), ← neg_add', abs_neg, abs_of_nonneg (by positivity)]
  | true => rw [signed, signed, if_neg (by decide), if_pos rfl, sub_neg_eq_add, abs_of_nonneg (by positivity)]

end SignedDistance

theorem FpFormat.nearest_zero (F : FpFormat) : F.Nearest 0 0 := fun _ => ⟨by simp, fun _ _ => rfl⟩

section Overflow

variable {F : FpFormat} (hF : F.Regular)
include hF

theorem FpFormat.Regular.sign_add_mod_two (neg : Bool) (n : Nat) : (F.sign neg + n) % 2 = n % 2 := by
  have hdvd : 2 ∣ F.signBit := dvd_pow_self 2 (by have := hF.one_le_fracBits; omega)
  cases neg <;> simp [sign]
  omega

/-- `overflowAt` lies halfway between the largest number and the next power of two. -/
theorem FpFormat.Regular.two_mul_overflowAt : 2 * F.overflowAt = F.size (F.infinity - 1) + F.size F.infinity := by
  have htop := hF.topExp_eq
  have hbias := hF.fracBits_le_bias.trans' hF.one_le_fracBits
  have hpos : 0 < 2 ^ F.fracBits := Nat.two_pow_pos _
  have hdec : F.infinity - 1 = (F.topExp - 2) * 2 ^ F.fracBits + (2 ^ (F.fracBits + 1) - 1) := by
    obtain ⟨e, he⟩ : ∃ e, F.topExp = e + 2 := ⟨F.topExp - 2, by omega⟩
    rw [infinity, he, Nat.add_sub_cancel, add_mul, pow_succ]
    omega
  rw [hF.size_infinity, hdec, F.size_mul_add (by omega) (fun _ => by rw [pow_succ]; omega), overflowAt]
  have hexp : F.lowest + (F.topExp - 2 : Nat) = (F.bias : ℤ) - F.fracBits := by
    rw [lowest]
    omega
  have hinf : (2 : ℝ) ^ ((F.bias : ℤ) + 1) = 2 ^ (F.fracBits + 1) * 2 ^ ((F.bias : ℤ) - F.fracBits) := by
    rw [← zpow_natCast, ← zpow_add₀ two_ne_zero]
    congr 1
    push_cast
    ring
  rw [hexp, hinf, Nat.cast_sub Nat.one_le_two_pow, zpow_sub_one₀ two_ne_zero]
  push_cast
  ring

/-- A nearest pattern is one of the format exactly below `overflowAt`: halfway the infinity, which is even, is taken. -/
theorem FpFormat.Nearest.lt_infinity_iff {x : ℝ} {n : Nat} (h : F.Nearest x n) : n < F.infinity ↔ x < F.overflowAt := by
  have hmid := hF.two_mul_overflowAt
  have hpos := hF.infinity_pos
  have hgap : (F.size (F.infinity - 1) : ℝ) < F.size F.infinity := F.size_strictMono (by omega)
  constructor
  · intro hn
    by_contra hx
    rw [not_lt] at hx
    have hle : (F.size n : ℝ) ≤ F.size (F.infinity - 1) := F.size_strictMono.monotone (by omega)
    obtain ⟨hnear, heven⟩ := h F.infinity
    rw [abs_of_nonpos (by linarith)] at hnear heven
    have htie : -((F.size n : ℝ) - x) = |F.size F.infinity - x| :=
      le_antisymm hnear (abs_le.2 ⟨by linarith, by linarith⟩)
    have hlast : (F.size n : ℝ) = F.size (F.infinity - 1) := by
      obtain habs | habs := abs_choice ((F.size F.infinity : ℝ) - x) <;> rw [habs] at htie <;> linarith
    have hodd := F.size_strictMono.injective hlast
    have heven := heven htie (by omega)
    have := hF.two_dvd_infinity
    omega
  · intro hx
    by_contra hn
    have hle : (F.size F.infinity : ℝ) ≤ F.size n := F.size_strictMono.monotone (by omega)
    have hnear := (h (F.infinity - 1)).1
    rw [abs_of_nonneg (by linarith), le_abs] at hnear
    obtain hnear | hnear := hnear <;> linarith

/-- A nearest pattern with a sign is correctly rounded: a number of the other sign is as near only if it is zero. -/
theorem FpFormat.Nearest.rounded {x : ℝ} (hx : 0 ≤ x) {n : Nat} (h : F.Nearest x n) (neg : Bool) :
    F.Rounded neg (signed neg x) (F.sign neg + if n < F.infinity then n else F.infinity) := by
  have hlt := F.infinity_lt_signBit
  rw [Rounded, abs_signed neg hx, ← not_lt, ← h.lt_infinity_iff hF]
  split_ifs with hn
  · refine ⟨negOf_sign_add neg (hn.trans hlt), absurd hn, fun _ => ⟨_, number_sign_add neg hn, fun p z hz => ?_⟩⟩
    obtain ⟨-, rfl⟩ := number_eq_some_iff.1 hz
    generalize F.magnitude p = i
    obtain ⟨hnear, heven⟩ := h i
    rw [hF.sign_add_mod_two, cast_signed, cast_signed, cast_size, cast_size, abs_signed_sub_signed]
    by_cases hsame : (signed (F.negOf p) (F.size i) : ℝ) = signed neg (F.size i)
    · rw [hsame, abs_signed_sub_signed]
      refine ⟨hnear, fun heq hne => heven heq fun hi => hne ?_⟩
      rw [← hi, ← Rat.cast_inj (α := ℝ), cast_signed, cast_signed, cast_size]
      exact hsame
    · have hnot : F.negOf p = !neg := Bool.eq_not.2 fun heq => hsame (by rw [heq])
      have hpos : (F.size i : ℝ) ≠ 0 := fun h0 => hsame (by rw [h0]; simp [signed])
      have hzero := (h 0).1
      rw [size_zero, zero_sub, abs_neg, abs_of_nonneg hx] at hzero
      have hfar := hzero.trans_lt (lt_add_of_pos_left x ((F.size_nonneg i).lt_of_ne' hpos))
      rw [hnot, abs_signed_not_sub_signed neg (F.size_nonneg i) hx]
      exact ⟨hfar.le, fun heq => absurd heq hfar.ne⟩
  · exact ⟨negOf_sign_add neg hlt, fun _ => value_sign_add_infinity neg, fun hn' => absurd hn' hn⟩

end Overflow

/-! ### A number whose last digit says that something was left over -/

/-- The digits `m * 2^q` stand for `x` exactly, or `m` is odd, has two digits more than the format keeps, and `x` lies strictly
between the multiples of `2^q` around it. -/
def FpFormat.StandsFor (F : FpFormat) (m : Nat) (q : ℤ) (x : ℝ) : Prop :=
  x = m * 2 ^ q ∨ 2 ^ (F.fracBits + 2) ≤ m ∧ m % 2 = 1 ∧ (m - 1 : ℝ) * 2 ^ q < x ∧ x < (m + 1) * 2 ^ q

/-- An odd number compares with an even one as its neighbours do. -/
theorem odd_between {m : Nat} (hm : m % 2 = 1) {q u : ℤ} (hu : q < u) {x : ℝ} (hlo : (m - 1 : ℝ) * 2 ^ q < x)
    (hhi : x < (m + 1) * 2 ^ q) (c : ℤ) :
    (x < c * 2 ^ u ∧ (m : ℝ) * 2 ^ q < c * 2 ^ u) ∨ (c * 2 ^ u < x ∧ c * 2 ^ u < (m : ℝ) * 2 ^ q) := by
  have hpos : (0 : ℝ) < 2 ^ q := by positivity
  obtain ⟨k, rfl⟩ : ∃ k : Nat, u = q + 1 + k := ⟨(u - q - 1).toNat, by omega⟩
  have hmul : (c : ℝ) * 2 ^ (q + 1 + (k : ℤ)) = (2 * (c * 2 ^ k) : ℤ) * 2 ^ q := by
    rw [zpow_add₀ two_ne_zero, zpow_add_one₀ two_ne_zero, zpow_natCast]
    push_cast
    ring
  rw [hmul]
  generalize c * 2 ^ k = e
  obtain h | h : (m : ℤ) + 1 ≤ 2 * e ∨ 2 * e ≤ (m : ℤ) - 1 := by omega
  · have hle : ((m : ℝ) + 1) * 2 ^ q ≤ (2 * e : ℤ) * 2 ^ q := mul_le_mul_of_nonneg_right (by exact_mod_cast h) hpos.le
    exact .inl ⟨hhi.trans_le hle, (mul_lt_mul_of_pos_right (lt_add_one _) hpos).trans_le hle⟩
  · have hle : ((2 * e : ℤ) : ℝ) * 2 ^ q ≤ (m - 1) * 2 ^ q := mul_le_mul_of_nonneg_right (by exact_mod_cast h) hpos.le
    exact .inr ⟨hle.trans_lt hlo, hle.trans_lt (mul_lt_mul_of_pos_right (sub_one_lt _) hpos)⟩

section StandsFor

variable {F : FpFormat} {m : Nat} {q : ℤ} {x : ℝ}

/-- The number compares with a multiple of half the lowest digit kept as its digits do. -/
theorem FpFormat.StandsFor.compare (h : F.StandsFor m q x) (c : ℤ) :
    ((m : ℝ) * 2 ^ q ≤ c * 2 ^ (F.keptFrom m q - 1) → x ≤ c * 2 ^ (F.keptFrom m q - 1)) ∧
      (c * 2 ^ (F.keptFrom m q - 1) ≤ (m : ℝ) * 2 ^ q → c * 2 ^ (F.keptFrom m q - 1) ≤ x) ∧
      (x = c * 2 ^ (F.keptFrom m q - 1) → (m : ℝ) * 2 ^ q = c * 2 ^ (F.keptFrom m q - 1)) := by
  obtain rfl | ⟨hm, hodd, hlo, hhi⟩ := h
  · exact ⟨id, id, id⟩
  · have hlen : F.fracBits + 2 < bitLength m := (Nat.pow_lt_pow_iff_right (by omega)).1 (hm.trans_lt (lt_two_pow_bitLength m))
    have hkept := F.le_keptFrom m q
    obtain ⟨hx, hmq⟩ | ⟨hx, hmq⟩ := odd_between hodd (u := F.keptFrom m q - 1) (by omega) hlo hhi c
    · exact ⟨fun _ => hx.le, fun hle => absurd hle (not_le.2 hmq), fun heq => absurd heq hx.ne⟩
    · exact ⟨fun hle => absurd hle (not_le.2 hmq), fun _ => hx.le, fun heq => absurd heq hx.ne'⟩

/-- The number lies between the two halfway points around the rounded one, and at one of them only when that is even. -/
theorem FpFormat.StandsFor.abs_sub_scaled_le (h : F.StandsFor m q x) (neg : Bool) :
    |scaled .nearestEven neg m q (F.keptFrom m q) * 2 ^ F.keptFrom m q - x| ≤ 2 ^ F.keptFrom m q / 2 ∧
      (|scaled .nearestEven neg m q (F.keptFrom m q) * 2 ^ F.keptFrom m q - x| = 2 ^ F.keptFrom m q / 2 →
        scaled .nearestEven neg m q (F.keptFrom m q) % 2 = 0) := by
  obtain ⟨hle, hge, htie⟩ := scaled_nearestEven (K := ℝ) (neg := neg) (m := m) (q := q) (t := F.keptFrom m q)
  generalize scaled .nearestEven neg m q (F.keptFrom m q) = s at *
  obtain ⟨hup, -, hup'⟩ := h.compare (2 * s + 1)
  obtain ⟨-, hdown, hdown'⟩ := h.compare (2 * s - 1)
  rw [zpow_sub_one₀ two_ne_zero] at hup hup' hdown hdown'
  generalize (2 : ℝ) ^ F.keptFrom m q = T at *
  push_cast at *
  have hx := hup (by linarith)
  have hx' := hdown (by linarith)
  refine ⟨abs_le.2 ⟨by linarith, by linarith⟩, fun heq => htie ?_⟩
  obtain habs | habs := abs_choice (s * T - x) <;> rw [habs] at heq
  · exact .inr (by linarith [hdown' (by linarith)])
  · exact .inl (by linarith [hup' (by linarith)])

/-- A multiple of `T` at most half of `T` away: every other one is at least as far. -/
theorem half_le_of_ne {s c : Nat} {T : ℝ} (h : |s * T - x| ≤ T / 2) (hc : c ≠ s) : T / 2 ≤ |c * T - x| := by
  have hT : 0 ≤ T := by linarith [(abs_nonneg _).trans h]
  have hdist : (1 : ℝ) ≤ |(c : ℝ) - s| := by
    have h1 : (1 : ℤ) ≤ |(c : ℤ) - s| := Int.one_le_abs (by omega)
    exact_mod_cast h1
  have hmul : T ≤ |c * T - s * T| := by
    rw [← sub_mul, abs_mul, abs_of_nonneg hT]
    exact le_mul_of_one_le_left hT hdist
  have htri := abs_sub_le (c * T) x (s * T)
  rw [abs_sub_comm x] at htri
  linarith

theorem le_of_half_le {s : Nat} {T : ℝ} (h : |s * T - x| ≤ T / 2) (c : Nat) : |s * T - x| ≤ |c * T - x| := by
  by_cases hc : c = s
  · rw [hc]
  · exact h.trans (half_le_of_ne h hc)

/-- Rounding finds a nearest number of a format without end: those below the leading digit are farther away. -/
theorem FpFormat.StandsFor.nearest (h : F.StandsFor m q x) (hF : F.Regular) (hm : m ≠ 0) (neg : Bool) :
    F.Nearest x (F.roundedMagnitude .nearestEven neg m q) := by
  obtain ⟨hle, htie⟩ := h.abs_sub_scaled_le neg
  have hsize := F.size_roundedMagnitude (K := ℝ) (rm := .nearestEven) (neg := neg) (q := q) hm
  have hlead : F.keptFrom m q ≠ F.lowest → ((2 ^ F.fracBits : Nat) : ℝ) * 2 ^ F.keptFrom m q ≤ x := by
    intro hlow
    have hle := F.keptFrom_le (K := ℝ) hm hlow
    have hcmp := (h.compare (2 * (2 ^ F.fracBits : Nat))).2.1
    rw [zpow_sub_one₀ two_ne_zero] at hcmp
    push_cast at hle hcmp ⊢
    linarith [hcmp (by linarith)]
  have hparity : F.roundedMagnitude .nearestEven neg m q % 2 = scaled .nearestEven neg m q (F.keptFrom m q) % 2 := by
    have := hF.two_dvd_pow_fracBits.mul_left (F.keptFrom m q - F.lowest).toNat
    rw [roundedMagnitude]
    omega
  intro i
  rw [hsize, hparity]
  by_cases hi : F.keptFrom m q ≠ F.lowest → ((2 ^ F.fracBits : Nat) : ℝ) * 2 ^ F.keptFrom m q ≤ F.size i
  · obtain ⟨c, hc⟩ := F.exists_size_eq_mul (F.lowest_le_keptFrom m q) hi
    rw [hc]
    by_cases hcs : c = scaled .nearestEven neg m q (F.keptFrom m q)
    · rw [hcs] at hc ⊢
      exact ⟨le_rfl, fun _ hne => absurd (F.size_strictMono.injective (hc.trans hsize.symm)) hne⟩
    · have hfar := half_le_of_ne hle hcs
      exact ⟨hle.trans hfar, fun heq _ => htie (le_antisymm hle (heq ▸ hfar))⟩
  · obtain ⟨hlow, hlt⟩ := Classical.not_imp.1 hi
    rw [not_le] at hlt
    have hx := hlead hlow
    have hnear := le_of_half_le hle (2 ^ F.fracBits)
    rw [abs_of_nonpos (sub_nonpos.2 hx)] at hnear
    have hstrict : |scaled .nearestEven neg m q (F.keptFrom m q) * 2 ^ F.keptFrom m q - x| < |F.size i - x| := by
      rw [abs_of_neg (by linarith : (F.size i : ℝ) - x < 0)]
      linarith
    exact ⟨hstrict.le, fun heq => absurd heq hstrict.ne⟩

/-- Digits that stand for `x` are rounded to nearest, ties to even, as `x` is to be. -/
theorem FpFormat.StandsFor.rounded (h : F.StandsFor m q x) (hF : F.Regular) (hx : 0 ≤ x) (neg : Bool) :
    F.Rounded neg (signed neg x) (F.round .nearestEven neg m q) := by
  by_cases hm : m = 0
  · have hx0 : x = 0 := by
      obtain hx0 | ⟨-, hodd, -⟩ := h
      · simpa [hm] using hx0
      · omega
    have hzero := (F.nearest_zero).rounded hF le_rfl neg
    rwa [if_pos hF.infinity_pos, add_zero, ← F.round_zero .nearestEven neg q, ← hm, ← hx0] at hzero
  · rw [F.round_of_ne_zero .nearestEven neg hm q]
    exact (h.nearest hF hm neg).rounded hF hx neg

/-- Of a number that is given exactly. -/
theorem FpFormat.Regular.rounded_round (hF : F.Regular) (neg : Bool) (m : Nat) (q : ℤ) :
    F.Rounded neg (signed neg (m * 2 ^ q)) (F.round .nearestEven neg m q) :=
  StandsFor.rounded (.inl rfl) hF (by positivity) neg

end StandsFor

end Sys2Proof.Machine

/-! SUPPORT. The arithmetic of the formats: that sums, products, quotients and square roots of finite numbers are correctly
rounded, and that RINT and CVTI round to an integer by the mode (R356, R357, R364 to R373, R387 to R394). -/

namespace Sys2Proof.Machine

open Sys2Proof Config

/-! ### Sums (R387, R388) -/

section Sums

variable {F : FpFormat} (n₁ : Bool) (m₁ : Nat) (q₁ : ℤ) (n₂ : Bool) (m₂ : Nat) (q₂ : ℤ)

/-- The sum of two magnitudes with their signs in units of the lower power of two. -/
def exactSum (n₁ : Bool) (m₁ : Nat) (q₁ : ℤ) (n₂ : Bool) (m₂ : Nat) (q₂ : ℤ) : ℤ :=
  signed n₁ (m₁ * 2 ^ (q₁ - min q₁ q₂).toNat : ℤ) + signed n₂ (m₂ * 2 ^ (q₂ - min q₁ q₂).toNat : ℤ)

theorem exactSum_mul :
    (exactSum n₁ m₁ q₁ n₂ m₂ q₂ : ℚ) * 2 ^ min q₁ q₂ = signed n₁ ((m₁ : ℚ) * 2 ^ q₁) + signed n₂ ((m₂ : ℚ) * 2 ^ q₂) := by
  rw [two_zpow_eq_mul (min_le_left q₁ q₂), two_zpow_eq_mul (min_le_right q₁ q₂), exactSum]
  simp only [signed_eq_mul]
  push_cast
  ring

theorem FpFormat.sumFinite_eq (rm : RoundingMode) :
    F.sumFinite rm n₁ m₁ q₁ n₂ m₂ q₂ =
      if exactSum n₁ m₁ q₁ n₂ m₂ q₂ = 0 then F.sign (if n₁ = n₂ then n₁ else decide (rm = .downward))
      else F.round rm (decide (exactSum n₁ m₁ q₁ n₂ m₂ q₂ < 0)) (exactSum n₁ m₁ q₁ n₂ m₂ q₂).natAbs (q₁ ⊓ q₂) := rfl

theorem FpFormat.sumFinite_lt (rm : RoundingMode) : F.sumFinite rm n₁ m₁ q₁ n₂ m₂ q₂ < 2 * F.signBit := by
  rw [sumFinite_eq]
  split
  · exact F.sign_lt _
  · exact F.round_lt _ _ _ _

/-- An integer is its magnitude with its sign. -/
theorem signed_natAbs {K : Type} [Ring K] (i : ℤ) : signed (decide (i < 0)) (i.natAbs : K) = i := by
  rw [signed, ← Int.cast_natCast, Int.natCast_natAbs]
  by_cases h : i < 0
  · simp [h, abs_of_neg]
  · simp [h, abs_of_nonneg (not_lt.1 h)]

/-- A sum that is not zero is rounded, with its sign. -/
theorem FpFormat.Regular.rounded_sumFinite (hF : F.Regular) {x : ℚ}
    (hx : x = signed n₁ ((m₁ : ℚ) * 2 ^ q₁) + signed n₂ ((m₂ : ℚ) * 2 ^ q₂)) (h0 : x ≠ 0) :
    F.Rounded (decide (x < 0)) (x : ℝ) (F.sumFinite .nearestEven n₁ m₁ q₁ n₂ m₂ q₂) := by
  rw [← exactSum_mul] at hx
  generalize hi : exactSum n₁ m₁ q₁ n₂ m₂ q₂ = i at hx
  have hi0 : i ≠ 0 := by rintro rfl; simp at hx; contradiction
  have hneg : x < 0 ↔ i < 0 := by
    have hpos : (0 : ℚ) < 2 ^ (q₁ ⊓ q₂) := by positivity
    simp [hx, mul_neg_iff, hpos, hpos.le]
  have hval : (x : ℝ) = signed (decide (i < 0)) ((i.natAbs : ℝ) * 2 ^ (q₁ ⊓ q₂)) := by
    rw [hx, signed_eq_mul, ← mul_assoc, ← signed_eq_mul, signed_natAbs]
    push_cast
    rfl
  rw [sumFinite_eq, hi, if_neg hi0, hval, decide_eq_decide.2 hneg]
  exact hF.rounded_round _ _ _

theorem FpFormat.sumFinite_of_zero (h : signed n₁ ((m₁ : ℚ) * 2 ^ q₁) + signed n₂ ((m₂ : ℚ) * 2 ^ q₂) = 0) :
    F.sumFinite .nearestEven n₁ m₁ q₁ n₂ m₂ q₂ = F.sign (n₁ && n₂) := by
  rw [← exactSum_mul] at h
  have hi : exactSum n₁ m₁ q₁ n₂ m₂ q₂ = 0 := by
    have := (mul_eq_zero.1 h).resolve_right (by positivity)
    exact_mod_cast this
  rw [sumFinite_eq, if_pos hi]
  cases n₁ <;> cases n₂ <;> rfl

end Sums

/-! ### Quotients (R393, R394) -/

/-- The digits of a quotient: its floor, and a last digit that says whether something was left over. -/
theorem standsFor_stickyQuotient (F : FpFormat) {n d : Nat} (hd : d ≠ 0) (hlen : 2 ^ (F.fracBits + 1) * d ≤ n) (q : ℤ) :
    F.StandsFor (stickyQuotient n d) (q - 1) (n / d * 2 ^ q) := by
  have hd' : (0 : ℝ) < d := by exact_mod_cast Nat.pos_of_ne_zero hd
  have hdiv : (d : ℝ) * (n / d : Nat) + (n % d : Nat) = n := by exact_mod_cast Nat.div_add_mod n d
  have hmod : ((n % d : Nat) : ℝ) < d := by exact_mod_cast Nat.mod_lt n (Nat.pos_of_ne_zero hd)
  have hpow : (2 : ℝ) ^ q = 2 * 2 ^ (q - 1) := by rw [zpow_sub_one₀ two_ne_zero]; ring
  have hpos : (0 : ℝ) < 2 ^ (q - 1) := by positivity
  rw [hpow, ← mul_assoc, stickyQuotient]
  split
  next h0 =>
    left
    rw [h0, Nat.cast_zero, add_zero] at hdiv
    rw [← hdiv]
    push_cast
    field_simp
    ring
  next h0 =>
    have hmod0 : (0 : ℝ) < (n % d : Nat) := by exact_mod_cast Nat.pos_of_ne_zero h0
    have hquot : 2 ^ (F.fracBits + 1) ≤ n / d := (Nat.le_div_iff_mul_le (Nat.pos_of_ne_zero hd)).2 hlen
    have hlo : ((n / d : Nat) : ℝ) < n / d := by rw [lt_div_iff₀ hd']; linarith
    have hhi : (n / d : ℝ) < (n / d : Nat) + 1 := by rw [div_lt_iff₀ hd']; linarith
    refine .inr ⟨by rw [pow_succ]; omega, by omega, mul_lt_mul_of_pos_right ?_ hpos, mul_lt_mul_of_pos_right ?_ hpos⟩
    all_goals
      rw [Nat.cast_add, Nat.cast_mul]
      push_cast
      linarith

theorem FpFormat.Regular.rounded_quotient {F : FpFormat} (hF : F.Regular) (neg : Bool) (m₁ : Nat) (q₁ : ℤ) {m₂ : Nat}
    (hm₂ : m₂ ≠ 0)
    (q₂ : ℤ) :
    F.Rounded neg (signed neg (m₁ * 2 ^ q₁ / (m₂ * 2 ^ q₂))) (F.quotient .nearestEven neg m₁ q₁ m₂ q₂) := by
  have hval : (m₁ * 2 ^ q₁ / (m₂ * 2 ^ q₂) : ℝ) =
      ((m₁ * 2 ^ (F.fracBits + 3 + bitLength m₂) : Nat) : ℝ) / m₂ * 2 ^ (q₁ - q₂ - (F.fracBits + 3 + bitLength m₂ : Nat)) := by
    rw [zpow_sub₀ two_ne_zero, zpow_sub₀ two_ne_zero, zpow_natCast]
    push_cast
    field_simp
  rw [hval]
  refine StandsFor.rounded ?_ hF (by positivity) neg
  by_cases hm₁ : m₁ = 0
  · left
    simp [hm₁, stickyQuotient]
  · refine standsFor_stickyQuotient F hm₂ ?_ _
    have hlt := lt_two_pow_bitLength m₂
    calc 2 ^ (F.fracBits + 1) * m₂ ≤ 2 ^ (F.fracBits + 3) * 2 ^ bitLength m₂ :=
          Nat.mul_le_mul (Nat.pow_le_pow_right (by omega) (by omega)) hlt.le
      _ = 1 * 2 ^ (F.fracBits + 3 + bitLength m₂) := by rw [one_mul, ← pow_add]
      _ ≤ m₁ * 2 ^ (F.fracBits + 3 + bitLength m₂) := Nat.mul_le_mul_right _ (by omega)

/-! ### Square roots (R364, R365) -/

/-- The digits found so far and one more unit of the place looked at stand around the root. -/
theorem rootDigits_bounds (k n acc : Nat) (hlo : acc ^ 2 ≤ n) (hhi : n < (acc + 2 ^ k) ^ 2) :
    rootDigits k n acc ^ 2 ≤ n ∧ n < (rootDigits k n acc + 1) ^ 2 := by
  induction k generalizing acc with
  | zero => exact ⟨hlo, by simpa [rootDigits] using hhi⟩
  | succ k ih =>
    rw [rootDigits]
    split
    next h => exact ih _ h (by rwa [add_assoc, ← mul_two, ← pow_succ])
    next h => exact ih _ hlo (not_le.1 h)

theorem rootFloor_eq_sqrt (n : Nat) : rootFloor n = n.sqrt := by
  have hlt : n < (0 + 2 ^ bitLength n) ^ 2 := by
    rw [zero_add]
    exact (lt_two_pow_bitLength n).trans_le (Nat.le_self_pow two_ne_zero _)
  obtain ⟨hlo, hhi⟩ := rootDigits_bounds (bitLength n) n 0 (by simp) hlt
  rw [rootFloor, Nat.eq_sqrt, ← pow_two, ← pow_two]
  exact ⟨hlo, hhi⟩

/-- The digits of a square root, as those of a quotient. -/
theorem standsFor_stickyRoot (F : FpFormat) {n : Nat} (hlen : (2 ^ (F.fracBits + 1)) ^ 2 ≤ n) (q : ℤ) :
    F.StandsFor (stickyRoot n) (q - 1) (Real.sqrt n * 2 ^ q) := by
  have hpow : (2 : ℝ) ^ q = 2 * 2 ^ (q - 1) := by rw [zpow_sub_one₀ two_ne_zero]; ring
  have hpos : (0 : ℝ) < 2 ^ (q - 1) := by positivity
  rw [hpow, ← mul_assoc, stickyRoot, rootFloor_eq_sqrt]
  split
  next h0 =>
    left
    have hroot : Real.sqrt n = n.sqrt := by
      rw [Real.sqrt_eq_iff_eq_sq (by positivity) (by positivity)]
      exact_mod_cast h0.symm
    rw [hroot]
    push_cast
    ring
  next h0 =>
    have hle : 2 ^ (F.fracBits + 1) ≤ n.sqrt := Nat.le_sqrt.2 (by rwa [← pow_two])
    have hlo : (n.sqrt : ℝ) < Real.sqrt n := by
      refine Real.lt_sqrt_of_sq_lt ?_
      exact_mod_cast lt_of_le_of_ne (Nat.sqrt_le' n) h0
    have hhi : Real.sqrt n < n.sqrt + 1 := by
      rw [Real.sqrt_lt' (by positivity)]
      exact_mod_cast Nat.lt_succ_sqrt' n
    refine .inr ⟨by rw [pow_succ]; omega, by omega, mul_lt_mul_of_pos_right ?_ hpos, mul_lt_mul_of_pos_right ?_ hpos⟩
    all_goals
      push_cast
      linarith

theorem FpFormat.Regular.rounded_rootFinite {F : FpFormat} (hF : F.Regular) {m : Nat} (hm : m ≠ 0) (q : ℤ) :
    F.Rounded false (Real.sqrt (m * 2 ^ q)) (F.rootFinite .nearestEven m q) := by
  obtain ⟨h, hh⟩ : ∃ h : ℤ, q - (2 * (F.fracBits + 3) + (q % 2).toNat : Nat) = 2 * h :=
    ⟨(q - (2 * (F.fracBits + 3) + (q % 2).toNat : Nat)) / 2, by omega⟩
  have hval : Real.sqrt (m * 2 ^ q) = Real.sqrt ((m * 2 ^ (2 * (F.fracBits + 3) + (q % 2).toNat) : Nat) : ℝ) * 2 ^ h := by
    have hq : q = (2 * (F.fracBits + 3) + (q % 2).toNat : Nat) + (h + h) := by omega
    have hsplit : (m * 2 ^ q : ℝ) = (m * 2 ^ (2 * (F.fracBits + 3) + (q % 2).toNat) : Nat) * (2 ^ h * 2 ^ h) := by
      conv_lhs => rw [hq]
      rw [zpow_add₀ two_ne_zero, zpow_add₀ two_ne_zero, zpow_natCast]
      push_cast
      ring
    rw [hsplit, Real.sqrt_mul (by positivity), Real.sqrt_mul_self (by positivity)]
  rw [rootFinite, hh, hval, Int.mul_ediv_cancel_left _ two_ne_zero]
  refine StandsFor.rounded (standsFor_stickyRoot F ?_ h) hF (by positivity) false
  calc (2 ^ (F.fracBits + 1)) ^ 2 = 1 * 2 ^ (2 * (F.fracBits + 1)) := by rw [one_mul, ← pow_mul, mul_comm]
    _ ≤ m * 2 ^ (2 * (F.fracBits + 3) + (q % 2).toNat) :=
      Nat.mul_le_mul (by omega) (Nat.pow_le_pow_right (by omega) (by omega))

/-! ### Whole numbers (R357, R370 to R373) -/

section WholeNumbers

variable {rm : RoundingMode} {neg : Bool} {m : Nat} {q : ℤ}

theorem floor_eq_wholeNumber (h : ∀ d r k, roundsUp rm neg d r k = false) : ⌊(m : ℚ) * 2 ^ q⌋ = wholeNumber rm neg m q := by
  have hbounds := scaled_down (K := ℚ) (m := m) (q := q) (t := 0) h
  simp only [zpow_zero, mul_one] at hbounds
  rw [Int.floor_eq_iff]
  exact_mod_cast hbounds

theorem ceil_eq_wholeNumber (h : ∀ d r k, roundsUp rm neg d r k = decide (r ≠ 0)) :
    ⌈(m : ℚ) * 2 ^ q⌉ = wholeNumber rm neg m q := by
  have hbounds := scaled_up (K := ℚ) (m := m) (q := q) (t := 0) h
  simp only [zpow_zero, mul_one] at hbounds
  rw [Int.ceil_eq_iff]
  exact_mod_cast hbounds.symm

theorem cast_signed_int (neg : Bool) (n : Nat) : ((signed neg (n : ℤ) : ℤ) : ℚ) = signed neg (n : ℚ) := by
  cases neg <;> simp [signed]

theorem roundsToInteger_nearestEven (neg : Bool) (m : Nat) (q : ℤ) :
    RoundsToInteger .nearestEven (signed neg ((m : ℚ) * 2 ^ q)) (signed neg (wholeNumber .nearestEven neg m q : ℤ)) := by
  obtain ⟨hle, hge, htie⟩ := scaled_nearestEven (K := ℚ) (neg := neg) (m := m) (q := q) (t := 0)
  rw [← wholeNumber] at hle hge htie
  simp only [zpow_zero, mul_one] at hle hge htie
  rw [RoundsToInteger, cast_signed_int, abs_signed_sub_signed]
  refine ⟨abs_le.2 ⟨by linarith, by linarith⟩, fun heq => ?_⟩
  have heven : wholeNumber .nearestEven neg m q % 2 = 0 := by
    obtain habs | habs := abs_choice ((m : ℚ) * 2 ^ q - wholeNumber .nearestEven neg m q) <;> rw [habs] at heq
    · exact htie (.inl (by linarith))
    · exact htie (.inr (by linarith))
  rw [signed]
  split <;> omega

theorem roundsToInteger_nearestAway (neg : Bool) (m : Nat) (q : ℤ) :
    RoundsToInteger .nearestAway (signed neg ((m : ℚ) * 2 ^ q)) (signed neg (wholeNumber .nearestAway neg m q : ℤ)) := by
  obtain ⟨hlt, hge⟩ := scaled_nearestAway (K := ℚ) (neg := neg) (m := m) (q := q) (t := 0)
  rw [← wholeNumber] at hlt hge
  simp only [zpow_zero, mul_one] at hlt hge
  rw [RoundsToInteger, cast_signed_int, abs_signed_sub_signed, abs_signed neg (by positivity), abs_signed neg (by positivity)]
  refine ⟨abs_le.2 ⟨by linarith, by linarith⟩, fun heq => ?_⟩
  obtain habs | habs := abs_choice ((m : ℚ) * 2 ^ q - wholeNumber .nearestAway neg m q) <;> rw [habs] at heq <;> linarith

/-- The magnitude rounded by a mode, with its sign, is what the mode makes of the number. -/
theorem roundsToInteger_wholeNumber (rm : RoundingMode) (neg : Bool) (m : Nat) (q : ℤ) :
    RoundsToInteger rm (signed neg ((m : ℚ) * 2 ^ q)) (signed neg (wholeNumber rm neg m q : ℤ)) := by
  have hx : (0 : ℚ) ≤ m * 2 ^ q := by positivity
  cases rm with
  | nearestEven => exact roundsToInteger_nearestEven neg m q
  | nearestAway => exact roundsToInteger_nearestAway neg m q
  | towardZero =>
    rw [RoundsToInteger, ← floor_eq_wholeNumber fun _ _ _ => rfl]
    cases neg with
    | false => exact (if_pos hx).symm
    | true =>
      rw [signed, signed, if_pos rfl, if_pos rfl, Int.ceil_neg]
      split
      next h =>
        have h0 : (m : ℚ) * 2 ^ q = 0 := by linarith
        simp [h0]
      next => rfl
  | upward =>
    rw [RoundsToInteger]
    cases neg with
    | false => exact (ceil_eq_wholeNumber fun _ _ _ => rfl).symm
    | true => rw [← floor_eq_wholeNumber fun _ _ _ => rfl, signed, signed, if_pos rfl, if_pos rfl, Int.ceil_neg]
  | downward =>
    rw [RoundsToInteger]
    cases neg with
    | false => exact (floor_eq_wholeNumber fun _ _ _ => rfl).symm
    | true => rw [← ceil_eq_wholeNumber fun _ _ _ => rfl, signed, signed, if_pos rfl, if_pos rfl, Int.floor_neg]

/-- A mode leaves an integer as it is. -/
theorem RoundsToInteger.eq_of_int {i n : ℤ} (h : RoundsToInteger rm (i : ℚ) n) : n = i := by
  have hnear (hle : |(i : ℚ) - n| ≤ 1 / 2) : n = i := by
    have hlt : |(i : ℚ) - n| < 1 := hle.trans_lt (by norm_num)
    have hlt' : |i - n| < 1 := by exact_mod_cast hlt
    rw [Int.abs_lt_one_iff] at hlt'
    omega
  cases rm with
  | nearestEven => exact hnear h.1
  | nearestAway => exact hnear h.1
  | towardZero => simpa [RoundsToInteger] using h
  | upward => simpa [RoundsToInteger] using h
  | downward => simpa [RoundsToInteger] using h

end WholeNumbers

/-- The whole number that a mode makes of a number of the format has a pattern: a number with digits below the point has no more
digits before it than the format keeps. -/
theorem FpFormat.Regular.exists_size_eq_wholeNumber {F : FpFormat} (hF : F.Regular) (rm : RoundingMode) (neg : Bool) {m n : Nat}
    {q : ℤ}
    (hm : m < 2 ^ (F.fracBits + 1)) (hn : n < F.infinity) (h : (m : ℚ) * 2 ^ q = F.size n) :
    ∃ i < F.infinity, (F.size i : ℚ) = wholeNumber rm neg m q := by
  by_cases hq : 0 ≤ q
  · obtain ⟨k, rfl⟩ := Int.eq_ofNat_of_zero_le hq
    have hwhole : wholeNumber rm neg m k = m * 2 ^ k := scaled_of_eq (K := ℚ) (by push_cast; simp)
    refine ⟨n, hn, h.symm.trans ?_⟩
    rw [hwhole]
    push_cast
    simp
  · have hle : wholeNumber rm neg m q ≤ 2 ^ F.fracBits := by
      refine scaled_le (K := ℚ) ?_
      have hm' : (m : ℚ) ≤ 2 ^ (F.fracBits + 1) := by exact_mod_cast hm.le
      have hq' : (2 : ℚ) ^ q ≤ 2 ^ (-1 : ℤ) := zpow_le_zpow_right₀ one_le_two (by omega)
      calc (m : ℚ) * 2 ^ q ≤ 2 ^ (F.fracBits + 1) * 2 ^ (-1 : ℤ) := mul_le_mul hm' hq' (by positivity) (by positivity)
        _ = (2 ^ F.fracBits : Nat) * 2 ^ (0 : ℤ) := by
          rw [pow_succ, zpow_neg_one, zpow_zero]
          push_cast
          ring
    have hlow : F.lowest ≤ 0 := by
      have := hF.fracBits_le_bias
      have := hF.one_le_fracBits
      rw [lowest]
      omega
    have hlt : (wholeNumber rm neg m q : ℚ) * 2 ^ (0 : ℤ) < 2 ^ ((F.bias : ℤ) + 1) := by
      have hle' : (wholeNumber rm neg m q : ℚ) ≤ 2 ^ F.fracBits := by exact_mod_cast hle
      rw [zpow_zero, mul_one]
      calc (wholeNumber rm neg m q : ℚ) ≤ 2 ^ (F.fracBits : ℤ) := by rwa [zpow_natCast]
        _ < 2 ^ ((F.bias : ℤ) + 1) := zpow_lt_zpow_right₀ one_lt_two (by have := hF.fracBits_le_bias; omega)
    obtain ⟨i, hi, hsize⟩ := hF.exists_lt_infinity_size_eq (hle.trans (Nat.pow_le_pow_right (by omega) (by omega))) hlow hlt
    exact ⟨i, hi, by rw [hsize, zpow_zero, mul_one]⟩

end Sys2Proof.Machine

/-! SUPPORT. The members of the IEEE instances as functions of bit patterns: what compares, minima and maxima, the arithmetic
and the conversions make of the numbers that their operands stand for (44_floating_point.md). -/

namespace Sys2Proof.Machine

open Sys2Proof Config

/-! ### Patterns as bit vectors -/

/-- The patterns of a regular format are the bit vectors of this width. -/
structure FpFormat.Fits (F : FpFormat) (w : Nat) : Prop extends F.Regular where
  width : w = F.expBits + F.fracBits + 1

theorem fits_single : single.Fits 32 := ⟨regular_single, rfl⟩

theorem fits_double : double.Fits 64 := ⟨regular_double, rfl⟩

theorem FpFormat.settle_toNat (F : FpFormat) {w : Nat} (draw a : BitVec w) : F.settle draw (some a.toNat) = a := by
  simp [settle]

section BitVectors

variable {F : FpFormat} {w : Nat} (hw : F.Fits w)
include hw

theorem FpFormat.Fits.two_pow_eq : 2 ^ w = 2 * F.signBit := by
  rw [hw.width, pow_succ, signBit, mul_comm]

theorem FpFormat.Fits.two_pow_pred_eq : 2 ^ (w - 1) = F.signBit := by
  rw [hw.width, Nat.add_sub_cancel, signBit]

theorem FpFormat.Fits.toNat_lt (a : BitVec w) : a.toNat < 2 * F.signBit := hw.two_pow_eq ▸ a.isLt

theorem FpFormat.Fits.toNat_ofNat {p : Nat} (hp : p < 2 * F.signBit) : (BitVec.ofNat w p).toNat = p := by
  rw [BitVec.toNat_ofNat, hw.two_pow_eq, Nat.mod_eq_of_lt hp]

theorem FpFormat.Fits.negOf_toNat (a : BitVec w) : F.negOf a.toNat = a.msb := by
  have hlt := hw.toNat_lt a
  have hpos : 0 < F.signBit := Nat.two_pow_pos _
  have hdiv : a.toNat / F.signBit < 2 := Nat.div_lt_of_lt_mul (by rwa [mul_comm])
  rw [BitVec.msb_eq_decide, hw.two_pow_pred_eq, negOf, decide_eq_decide, Nat.mod_eq_of_lt hdiv,
    ← Nat.one_mul F.signBit, ← Nat.le_div_iff_mul_le hpos, Nat.one_mul]
  omega

theorem FpFormat.Fits.toNat_eq (a : BitVec w) : a.toNat = F.sign a.msb + F.magnitude a.toNat := by
  rw [← hw.negOf_toNat]
  exact eq_sign_add_magnitude (hw.toNat_lt a)

theorem FpFormat.Fits.ofNat_sign (neg : Bool) : BitVec.ofNat w (F.sign neg) = if neg = true then BitVec.intMin w else 0 := by
  cases neg with
  | false => rfl
  | true =>
    apply BitVec.eq_of_toNat_eq
    have hpos : 0 < F.signBit := Nat.two_pow_pos _
    have hlt : F.sign true < 2 * F.signBit := by simp [sign, hpos]
    rw [hw.toNat_ofNat hlt, if_pos rfl, BitVec.toNat_intMin, hw.width]
    have : 2 ^ (F.expBits + F.fracBits) < 2 ^ (F.expBits + F.fracBits + 1) := Nat.pow_lt_pow_right (by omega) (by omega)
    simp [sign, signBit, Nat.mod_eq_of_lt this]

/-- Two patterns with one sign that stand for one number are equal. -/
theorem FpFormat.Fits.eq_of_number_eq {a b : BitVec w} {x : ℚ} (hmsb : a.msb = b.msb) (ha : F.number a.toNat = some x)
    (hb : F.number b.toNat = some x) : a = b :=
  BitVec.eq_of_toNat_eq
    (FpFormat.eq_of_number_eq (hw.toNat_lt a) (hw.toNat_lt b) (by rw [hw.negOf_toNat, hw.negOf_toNat, hmsb]) ha hb)

/-! ### The values of bit vectors -/

section Values

variable {a : BitVec w}

theorem FpFormat.Fits.value_of_isInf (h : F.isInf a.toNat = true) : F.value a.toNat = .inf a.msb := by
  rw [FpFormat.value_of_isInf h, hw.negOf_toNat]

theorem FpFormat.Fits.toNat_of_isInf (h : F.isInf a.toNat = true) : a.toNat = F.sign a.msb + F.infinity := by
  have hmag := (F.isInf_iff _).1 h
  exact hmag ▸ hw.toNat_eq a

theorem FpFormat.Fits.value_of_number {x : ℚ} (h : F.number a.toNat = some x) :
    ∃ m q, F.value a.toNat = .num a.msb m q ∧ x = signed a.msb ((m : ℚ) * 2 ^ q) ∧ (x = 0 ↔ m = 0) := by
  obtain ⟨m, q, hv, -, hx, -⟩ := FpFormat.value_of_number h
  rw [hw.negOf_toNat] at hv hx
  refine ⟨m, q, hv, hx, ?_⟩
  rw [hx, signed_eq_zero_iff, mul_eq_zero_iff_right (by positivity), Nat.cast_eq_zero]

theorem FpFormat.Fits.toNat_of_number_zero (h : F.number a.toNat = some 0) : a.toNat = F.sign a.msb := by
  obtain ⟨-, hx⟩ := number_eq_some_iff.1 h
  have hmag : F.magnitude a.toNat = 0 :=
    (F.size_strictMono (K := ℚ)).injective (by rw [(signed_eq_zero_iff _ _).1 hx.symm, size_zero])
  rw [hw.toNat_eq a, hmag, add_zero]

end Values

/-! ### Results: a pattern, or a drawn NaN (R356, log entry 39) -/

section Results

variable (draw : BitVec w)

theorem FpFormat.Fits.toNat_settle {p : Nat} (hp : p < 2 * F.signBit) : (F.settle draw (some p)).toNat = p := hw.toNat_ofNat hp

theorem FpFormat.Fits.isNan_settle_none : F.isNan (F.settle draw none).toNat = true := by
  have hsum := F.infinity_add
  have hpos : 0 < 2 ^ F.fracBits := Nat.two_pow_pos _
  have htwo := Nat.le_of_dvd hpos hw.two_dvd_pow_fracBits
  have hfrac : F.fracOf draw.toNat < 2 ^ F.fracBits := Nat.mod_lt _ hpos
  obtain ⟨f, hf, hflt, hfpos⟩ : ∃ f, F.drawnNan draw.toNat = F.sign (F.negOf draw.toNat) + (F.infinity + f) ∧
      f < 2 ^ F.fracBits ∧ 0 < f := by
    refine ⟨_, Nat.add_assoc .., ?_, ?_⟩ <;> split <;> omega
  have hlt : F.infinity + f < F.signBit := by omega
  have hnat : (F.settle draw none).toNat = F.drawnNan draw.toNat := hw.toNat_ofNat (hf ▸ sign_add_lt _ hlt)
  rw [isNan_iff, hnat, hf, magnitude_sign_add _ hlt]
  omega

end Results

section Operations

variable {draw : BitVec 64 → BitVec 64 → BitVec w} {a b : BitVec w} {p : Nat}

theorem FpFormat.Fits.toNat_unary {f : Nat → Option Nat} (hf : f a.toNat = some p) (hp : p < 2 * F.signBit) :
    (F.unary draw f a).toNat = p := by
  rw [unary, hf, hw.toNat_settle _ hp]

theorem FpFormat.Fits.isNan_unary {f : Nat → Option Nat} (hf : f a.toNat = none) : F.isNan (F.unary draw f a).toNat = true := by
  rw [unary, hf, hw.isNan_settle_none]

theorem FpFormat.Fits.toNat_binary {f : Nat → Nat → Option Nat} (hf : f a.toNat b.toNat = some p) (hp : p < 2 * F.signBit) :
    (F.binary draw f a b).toNat = p := by
  rw [binary, hf, hw.toNat_settle _ hp]

theorem FpFormat.Fits.isNan_binary {f : Nat → Nat → Option Nat} (hf : f a.toNat b.toNat = none) :
    F.isNan (F.binary draw f a b).toNat = true := by
  rw [binary, hf, hw.isNan_settle_none]

theorem FpFormat.Fits.value_binary_of_inf {f : Nat → Nat → Option Nat} {neg : Bool}
    (hf : f a.toNat b.toNat = some (F.sign neg + F.infinity)) : F.value (F.binary draw f a b).toNat = .inf neg := by
  rw [hw.toNat_binary hf (sign_add_lt _ F.infinity_lt_signBit), value_sign_add_infinity]

end Operations

end BitVectors

section Operands

variable (F : FpFormat) {w : Nat} {draw : BitVec 64 → BitVec 64 → BitVec w} {a b : BitVec w}

theorem FpFormat.unary_eq_self {f : Nat → Option Nat} (hf : f a.toNat = some a.toNat) : F.unary draw f a = a := by
  rw [unary, hf, settle_toNat]

theorem FpFormat.binary_eq_left {f : Nat → Nat → Option Nat} (hf : f a.toNat b.toNat = some a.toNat) :
    F.binary draw f a b = a := by
  rw [binary, hf, settle_toNat]

theorem FpFormat.binary_eq_right {f : Nat → Nat → Option Nat} (hf : f a.toNat b.toNat = some b.toNat) :
    F.binary draw f a b = b := by
  rw [binary, hf, settle_toNat]

end Operands

/-! ### The order of the patterns is that of the numbers and infinities (R356, R374 to R381) -/

/-- The number or infinity of a pattern without a sign bit that is no NaN. -/
noncomputable def FpFormat.extendedSize (F : FpFormat) (n : Nat) : EReal := if n < F.infinity then ((F.size n : ℝ) : EReal) else ⊤

section Order

variable {F : FpFormat}

theorem FpFormat.extendedSize_nonneg (F : FpFormat) (n : Nat) : 0 ≤ F.extendedSize n := by
  rw [extendedSize]
  split
  · exact EReal.coe_nonneg.2 (F.size_nonneg n)
  · exact le_top

theorem FpFormat.extendedSize_lt {i j : Nat} (hij : i < j) (hj : j ≤ F.infinity) : F.extendedSize i < F.extendedSize j := by
  rw [extendedSize, if_pos (hij.trans_le hj), extendedSize]
  split
  · exact EReal.coe_lt_coe_iff.2 (F.size_strictMono hij)
  · exact EReal.coe_lt_top _

theorem FpFormat.extendedSize_zero (h : 0 < F.infinity) : F.extendedSize 0 = 0 := by simp [extendedSize, h]

theorem FpFormat.extended_of_not_isNan {p : Nat} (h : F.isNan p = false) :
    F.extended p = some (signed (F.negOf p) (F.extendedSize (F.magnitude p))) := by
  obtain ⟨hnan, -⟩ | ⟨hinf, hv⟩ | ⟨hlt, hv⟩ := F.value_cases p
  · rw [h] at hnan
    cases hnan
  · rw [extended, hv, extendedSize, (F.isInf_iff p).1 hinf]
    simp [signed]
  · rw [extended, hv, extendedSize, if_pos hlt, size_eq_digits]
    cases F.negOf p <;> simp [signed]

theorem FpFormat.extended_eq_none_iff {p : Nat} : F.isNan p = true ↔ F.extended p = none := by
  refine ⟨fun h => by rw [extended, value_of_isNan h], fun h => ?_⟩
  by_contra hnan
  rw [extended_of_not_isNan (Bool.not_eq_true _ ▸ hnan)] at h
  cases h

theorem FpFormat.isNan_of_extended {p : Nat} {x : EReal} (h : F.extended p = some x) : F.isNan p = false := by
  rw [← Bool.not_eq_true, extended_eq_none_iff, h]
  simp

theorem FpFormat.isInf_iff_extended {p : Nat} : F.isInf p = true ↔ F.extended p = some ⊤ ∨ F.extended p = some ⊥ := by
  obtain ⟨hnan, hv⟩ | ⟨hinf, hv⟩ | ⟨hlt, hv⟩ := F.value_cases p
  · have hne := ((F.isNan_iff p).1 hnan).ne'
    simp [extended, hv, isInf_iff, hne]
  · rw [extended, hv]
    cases F.negOf p <;> simp [hinf]
  · rw [extended, hv]
    simp only [isInf_iff, hlt.ne, Option.some.injEq, EReal.coe_ne_top, EReal.coe_ne_bot, or_self]

/-- Signed magnitudes of patterns that are no NaNs are in the order of the signed numbers. -/
theorem FpFormat.signed_extendedSize_lt {n₁ n₂ : Bool} {i j : Nat} (hi : i ≤ F.infinity) (hj : j ≤ F.infinity)
    (hinf : 0 < F.infinity)
    (h : signed n₁ (i : ℤ) < signed n₂ (j : ℤ)) : signed n₁ (F.extendedSize i) < signed n₂ (F.extendedSize j) := by
  cases n₁ <;> cases n₂ <;> simp only [signed, if_true, Bool.false_eq_true, if_false] at h ⊢
  · exact extendedSize_lt (by omega) hj
  · omega
  · obtain h0 | h0 : 0 < j ∨ 0 < i := by omega
    · have hpos := extendedSize_zero hinf ▸ extendedSize_lt h0 hj
      exact (EReal.neg_le_zero.2 (F.extendedSize_nonneg i)).trans_lt hpos
    · have hpos := extendedSize_zero hinf ▸ extendedSize_lt h0 hi
      exact (EReal.neg_lt_zero.2 hpos).trans_le (F.extendedSize_nonneg j)
  · exact EReal.neg_lt_neg_iff.2 (extendedSize_lt (by omega) hi)

theorem FpFormat.signed_extendedSize_eq {n₁ n₂ : Bool} {i j : Nat} (hinf : 0 < F.infinity)
    (h : signed n₁ (i : ℤ) = signed n₂ (j : ℤ)) : signed n₁ (F.extendedSize i) = signed n₂ (F.extendedSize j) := by
  by_cases hn : n₁ = n₂
  · subst hn
    have hij : i = j := by cases n₁ <;> simp only [signed, if_true, Bool.false_eq_true, if_false] at h <;> omega
    rw [hij]
  · have hzero : i = 0 ∧ j = 0 := by
      obtain rfl : n₁ = !n₂ := Bool.eq_not.2 hn
      cases n₂ <;> simp only [signed, Bool.not_false, Bool.not_true, if_true, Bool.false_eq_true, if_false] at h <;> omega
    rw [hzero.1, hzero.2, extendedSize_zero hinf]
    simp [signed]

variable {p p' : Nat} {x y : EReal}

theorem FpFormat.order_cmp (hinf : 0 < F.infinity) (hx : F.extended p = some x) (hy : F.extended p' = some y) :
    (F.order p < F.order p' ↔ x < y) ∧ (F.order p = F.order p' ↔ x = y) := by
  have hp := isNan_of_extended hx
  have hp' := isNan_of_extended hy
  rw [extended_of_not_isNan hp, Option.some.injEq] at hx
  rw [extended_of_not_isNan hp', Option.some.injEq] at hy
  rw [← Bool.not_eq_true, isNan_iff, not_lt] at hp hp'
  have hlt (h : F.order p < F.order p') : x < y := hx ▸ hy ▸ signed_extendedSize_lt hp hp' hinf h
  have hgt (h : F.order p' < F.order p) : y < x := hx ▸ hy ▸ signed_extendedSize_lt hp' hp hinf h
  have heq (h : F.order p = F.order p') : x = y := hx ▸ hy ▸ signed_extendedSize_eq hinf h
  obtain h | h | h := lt_trichotomy (F.order p) (F.order p')
  · exact ⟨iff_of_true h (hlt h), iff_of_false h.ne (hlt h).ne⟩
  · exact ⟨iff_of_false h.not_lt (heq h).not_lt, iff_of_true h (heq h)⟩
  · exact ⟨iff_of_false h.not_gt (hgt h).not_gt, iff_of_false h.ne' (hgt h).ne'⟩

end Order

end Sys2Proof.Machine

/-! SUPPORT. The floating-point statements about numbers: the compares, the exact conversions, and the operations that round
(44_floating_point.md sections 1 to 4). -/

namespace Sys2Proof.Machine

open Sys2Proof Config

/-! ### Compares, classes, minimum and maximum (R374 to R386, R395 to R398) -/

section Compares

variable {F : FpFormat} {w : Nat} {p p' : Nat}

theorem FpFormat.ordered_of_extended {x y : EReal} (hx : F.extended p = some x) (hy : F.extended p' = some y) :
    F.ordered p p' = true := by
  rw [ordered, isNan_of_extended hx, isNan_of_extended hy]
  rfl

/-- What the compares answer of operands that stand for numbers or infinities. -/
theorem FpFormat.compares_iff (hinf : 0 < F.infinity) {x y : EReal} (hx : F.extended p = some x) (hy : F.extended p' = some y) :
    (F.lt p p' = true ↔ x < y) ∧ (F.eq p p' = true ↔ x = y) ∧ ((!F.eq p p') = true ↔ x ≠ y) ∧ (F.ge p p' = true ↔ y ≤ x) := by
  obtain ⟨hlt, heq⟩ := order_cmp hinf hx hy
  have hord := ordered_of_extended hx hy
  refine ⟨?_, ?_, ?_, ?_⟩
  · rw [lt, hord, Bool.true_and, decide_eq_true_iff, hlt]
  · rw [eq, hord, Bool.true_and, decide_eq_true_iff, heq]
  · rw [eq, hord, Bool.true_and, Bool.not_eq_true', decide_eq_false_iff_not, heq]
  · rw [ge, hord, Bool.true_and, decide_eq_true_iff, ← not_lt, hlt, not_lt]

theorem FpFormat.compares_of_isNan (h : F.isNan p = true ∨ F.isNan p' = true) :
    F.lt p p' = false ∧ F.eq p p' = false ∧ (!F.eq p p') = true ∧ F.ge p p' = false := by
  have hord : F.ordered p p' = false := by
    obtain h | h := h <;> simp [ordered, h]
  simp [lt, eq, ge, hord]

/-- Two operands are unordered when one of them is a NaN, and only then. -/
theorem FpFormat.isNan_or_iff_unordered :
    ((F.isNan p || F.isNan p') = true ↔ F.lt p p' = false ∧ F.eq p p' = false ∧ F.lt p' p = false) ∧
      ((F.isNan p || F.isNan p') = true ↔ F.ge p p' = false ∧ F.ge p' p = false) := by
  cases hp : F.isNan p <;> cases hp' : F.isNan p' <;> simp [lt, eq, ge, ordered, hp, hp']
  omega

theorem FpFormat.expOf_toNat (F : FpFormat) (a : BitVec w) :
    F.expOf a.toNat = F.topExp ↔ a.extractLsb' F.fracBits F.expBits = BitVec.allOnes F.expBits := by
  rw [← BitVec.toNat_inj, BitVec.extractLsb'_toNat, BitVec.toNat_allOnes, Nat.shiftRight_eq_div_pow]
  rfl

theorem FpFormat.fracOf_toNat (F : FpFormat) (a : BitVec w) : F.fracOf a.toNat = 0 ↔ a.extractLsb' 0 F.fracBits = 0 := by
  rw [← BitVec.toNat_inj, BitVec.extractLsb'_toNat, Nat.shiftRight_zero]
  rfl

theorem FpFormat.isInf_toNat_iff (F : FpFormat) (a : BitVec w) :
    F.isInf a.toNat = true ↔ a.extractLsb' F.fracBits F.expBits = BitVec.allOnes F.expBits ∧ a.extractLsb' 0 F.fracBits = 0 := by
  rw [isInf, Bool.and_eq_true, decide_eq_true_iff, decide_eq_true_iff, expOf_toNat, fracOf_toNat]

theorem FpFormat.isNan_toNat_iff (F : FpFormat) (a : BitVec w) :
    F.isNan a.toNat = true ↔ a.extractLsb' F.fracBits F.expBits = BitVec.allOnes F.expBits ∧ a.extractLsb' 0 F.fracBits ≠ 0 := by
  rw [isNan, Bool.and_eq_true, decide_eq_true_iff, decide_eq_true_iff, expOf_toNat, ne_eq, fracOf_toNat]

variable {draw draw' : BitVec 64 → BitVec 64 → BitVec w} {a b : BitVec w} {x y : EReal}

theorem FpFormat.minMax_of_lt (hinf : 0 < F.infinity) (hx : F.extended a.toNat = some x) (hy : F.extended b.toNat = some y)
    (hxy : x < y) : F.binary draw F.min a b = a ∧ F.binary draw' F.max a b = b := by
  have hlt := (order_cmp hinf hx hy).1.2 hxy
  have ha := isNan_of_extended hx
  have hb := isNan_of_extended hy
  exact ⟨F.binary_eq_left (by simp [min, ha, hb, hlt, hlt.ne]), F.binary_eq_right (by simp [max, ha, hb, hlt, hlt.ne])⟩

theorem FpFormat.minMax_of_gt (hinf : 0 < F.infinity) (hx : F.extended a.toNat = some x) (hy : F.extended b.toNat = some y)
    (hyx : y < x) : F.binary draw F.min a b = b ∧ F.binary draw' F.max a b = a := by
  have hlt := (order_cmp hinf hy hx).1.2 hyx
  have ha := isNan_of_extended hx
  have hb := isNan_of_extended hy
  exact ⟨F.binary_eq_right (by simp [min, ha, hb, hlt.not_gt, hlt.ne']),
    F.binary_eq_left (by simp [max, ha, hb, hlt.not_gt, hlt.ne'])⟩

/-- Of two equal operands, which differ only if they are zeros, the sign of the first one decides. -/
theorem FpFormat.Fits.minMax_of_eq (hw : F.Fits w) (hx : F.extended a.toNat = some x) (hy : F.extended b.toNat = some y)
    (hxy : x = y) :
    F.binary draw F.min a b = (if a.msb then a else b) ∧ F.binary draw' F.max a b = if a.msb then b else a := by
  have heq := (order_cmp hw.infinity_pos hx hy).2.2 hxy
  have ha := isNan_of_extended hx
  have hb := isNan_of_extended hy
  cases hmsb : a.msb with
  | false =>
    exact ⟨F.binary_eq_right (by simp [min, ha, hb, heq, hw.negOf_toNat, hmsb]),
      F.binary_eq_left (by simp [max, ha, hb, heq, hw.negOf_toNat, hmsb])⟩
  | true =>
    exact ⟨F.binary_eq_left (by simp [min, ha, hb, heq, hw.negOf_toNat, hmsb]),
      F.binary_eq_right (by simp [max, ha, hb, heq, hw.negOf_toNat, hmsb])⟩

theorem FpFormat.minMax_of_isNan_left (ha : F.isNan a.toNat = true) (hb : F.isNan b.toNat = false) :
    F.binary draw F.min a b = b ∧ F.binary draw' F.max a b = b :=
  ⟨F.binary_eq_right (by simp [min, ha, hb]), F.binary_eq_right (by simp [max, ha, hb])⟩

theorem FpFormat.minMax_of_isNan_right (ha : F.isNan a.toNat = false) (hb : F.isNan b.toNat = true) :
    F.binary draw F.min a b = a ∧ F.binary draw' F.max a b = a :=
  ⟨F.binary_eq_left (by simp [min, ha, hb]), F.binary_eq_left (by simp [max, ha, hb])⟩

theorem FpFormat.Fits.isNan_minMax (hw : F.Fits w) (ha : F.isNan a.toNat = true) (hb : F.isNan b.toNat = true) :
    F.isNan (F.binary draw F.min a b).toNat = true ∧ F.isNan (F.binary draw' F.max a b).toNat = true :=
  ⟨hw.isNan_binary (by simp [min, ha, hb]), hw.isNan_binary (by simp [max, ha, hb])⟩

end Compares

/-- Settles O48: the order of the patterns is that of what they stand for, and a NaN has no place in it. -/
theorem floatComparesCompareNumbers : Obligations.FloatComparesCompareNumbers := by
  refine ⟨fun a b => ?single, fun a b => ?double⟩
  case' single => have hw := fits_single
  case' double => have hw := fits_double
  all_goals
    have hinf := hw.infinity_pos
    refine ⟨fun x y hx hy => ?_, FpFormat.isInf_toNat_iff _ a, FpFormat.isNan_toNat_iff _ a, FpFormat.isInf_iff_extended,
      FpFormat.extended_eq_none_iff, FpFormat.compares_of_isNan, FpFormat.isNan_or_iff_unordered.1,
      FpFormat.isNan_or_iff_unordered.2, FpFormat.minMax_of_isNan_left, FpFormat.minMax_of_isNan_right, hw.isNan_minMax⟩
    obtain ⟨hlt, heq, hne, hge⟩ := FpFormat.compares_iff hinf hx hy
    exact ⟨hlt, heq, hne, hge, FpFormat.minMax_of_lt hinf hx hy, FpFormat.minMax_of_gt hinf hx hy, hw.minMax_of_eq hx hy⟩

end Sys2Proof.Machine

/-! SUPPORT. The floating-point conversions and the arithmetic: what is exact, and what is rounded to nearest, ties to even
(44_floating_point.md sections 1, 2 and 4). -/

namespace Sys2Proof.Machine

open Sys2Proof Config

/-! ### Exact conversions (R366, R367, R369, R371) -/

/-- A number that both formats have is converted to its pattern, whatever the mode. -/
theorem FpFormat.convert_of_size_eq {F G : FpFormat} (rm : RoundingMode) {p n : Nat} (hp : F.magnitude p < F.infinity)
    (hn : n < G.infinity) (h : (F.size (F.magnitude p) : ℚ) = G.size n) :
    F.convert G rm p = some (G.sign (F.negOf p) + n) := by
  rw [convert, value_of_lt hp]
  exact congrArg some (round_of_size_eq rm _ hn ((F.size_eq_digits _).symm.trans h))

theorem FpFormat.convert_of_isInf {F : FpFormat} (G : FpFormat) (rm : RoundingMode) {p : Nat} (hp : F.isInf p = true) :
    F.convert G rm p = some (G.sign (F.negOf p) + G.infinity) := by
  rw [convert, FpFormat.value_of_isInf hp]

theorem FpFormat.convert_of_isNan {F : FpFormat} (G : FpFormat) (rm : RoundingMode) {p : Nat} (hp : F.isNan p = true) :
    F.convert G rm p = none := by
  rw [convert, value_of_isNan hp]

/-- The formats of a widening: the second has as many digits and as great a range as the first. -/
structure FpFormat.Widens (F G : FpFormat) : Prop where
  fracBits_le : F.fracBits ≤ G.fracBits
  bias_le : F.bias ≤ G.bias
  lowest_le : G.lowest ≤ F.lowest

theorem single_widens_double : single.Widens double := ⟨by decide, by decide, by decide⟩

/-- Every number of a format is one of a wider format. -/
theorem FpFormat.Widens.exists_size_eq {F G : FpFormat} (h : F.Widens G) (hF : F.Regular) (hG : G.Regular) {i : Nat}
    (hi : i < F.infinity) :
    ∃ n < G.infinity, (F.size i : ℚ) = G.size n := by
  have hlt : (F.size i : ℚ) < 2 ^ ((G.bias : ℤ) + 1) := by
    refine (F.size_strictMono hi).trans_le ?_
    rw [hF.size_infinity]
    exact zpow_le_zpow_right₀ one_le_two (by have := h.bias_le; omega)
  have hdigits : F.digits i ≤ 2 ^ (G.fracBits + 1) :=
    (F.digits_lt i).le.trans (Nat.pow_le_pow_right (by omega) (by have := h.fracBits_le; omega))
  rw [size_eq_digits] at hlt ⊢
  obtain ⟨n, hn, hsize⟩ := hG.exists_lt_infinity_size_eq hdigits (by have := h.lowest_le; omega) hlt
  exact ⟨n, hn, hsize.symm⟩

/-- A pattern that is no NaN is widened to one from which it comes back, and of the same number if it stands for one. -/
theorem FpFormat.Widens.convert_back {F G : FpFormat} (h : F.Widens G) (hF : F.Regular) (hG : G.Regular) (rm : RoundingMode)
    {p : Nat}
    (hp : p < 2 * F.signBit) (hnan : F.isNan p = false) :
    ∃ p' < 2 * G.signBit, F.convert G rm p = some p' ∧ G.convert F rm p' = some p ∧
      ∀ x : ℚ, F.number p = some x → G.number p' = some x := by
  have hsplit := eq_sign_add_magnitude hp
  obtain ⟨hnan', -⟩ | ⟨hinf, hv⟩ | ⟨hlt, -⟩ := F.value_cases p
  · rw [hnan] at hnan'
    cases hnan'
  · have hGinf := G.infinity_lt_signBit
    have hback : G.isInf (G.sign (F.negOf p) + G.infinity) = true := (G.isInf_iff _).2 (magnitude_sign_add _ hGinf)
    refine ⟨_, sign_add_lt _ hGinf, convert_of_isInf G rm hinf, ?_, fun x hx => ?_⟩
    · rw [convert_of_isInf F rm hback, negOf_sign_add _ hGinf, ← (F.isInf_iff p).1 hinf, ← hsplit]
    · rw [number, hv] at hx
      cases hx
  · obtain ⟨n, hn, hsize⟩ := h.exists_size_eq hF hG hlt
    have hGn := hn.trans G.infinity_lt_signBit
    refine ⟨_, sign_add_lt _ hGn, convert_of_size_eq rm hlt hn hsize, ?_, fun x hx => ?_⟩
    · rw [convert_of_size_eq rm (by rwa [magnitude_sign_add _ hGn]) hlt (by rw [magnitude_sign_add _ hGn, hsize]),
        negOf_sign_add _ hGn, ← hsplit]
    · rw [number_sign_add _ hn, ← hsize, ← number_of_lt hlt, hx]

theorem ieee_widen (rm : RoundingMode) (a : BitVec 32) :
    (ieee rm).widen a = double.settle (nanDrawD rm .widen (a.setWidth 64) 0) (single.convert double rm a.toNat) := rfl

theorem ieee_narrow (rm : RoundingMode) (a : BitVec 64) :
    (ieee rm).narrow a = single.settle (nanDrawS rm .narrow a 0) (double.convert single rm a.toNat) := rfl

/-- Settles O49: every number of single precision is one of double precision. -/
theorem singleSurvivesWidening : Obligations.SingleSurvivesWidening := by
  intro rm a hnan
  obtain ⟨p, hp, hwiden, hnarrow, hnumber⟩ :=
    single_widens_double.convert_back regular_single regular_double rm (fits_single.toNat_lt a) hnan
  have hbits : ((ieee rm).widen a).toNat = p := by
    rw [ieee_widen, hwiden, fits_double.toNat_settle _ hp]
  refine ⟨?_, fun x hx => hbits ▸ hnumber x hx⟩
  rw [ieee_narrow, hbits, hnarrow, single.settle_toNat]

/-! ### Whole numbers (R370 to R373) -/

/-- CVTI of a number in the range of the 64-bit integers. -/
theorem toInt_getD_ofInt {n : ℤ} (hlo : -2 ^ 63 ≤ n) (hhi : n < 2 ^ 63) (v : Word) :
    ((if -2 ^ 63 ≤ n ∧ n < 2 ^ 63 then some (BitVec.ofInt 64 n) else none).getD v).toInt = n := by
  rw [if_pos ⟨hlo, hhi⟩, Option.getD_some, BitVec.toInt_ofInt, Int.bmod_eq_of_le] <;> omega

section WholeNumbers

variable {F : FpFormat} {w : Nat} (hw : F.Fits w) {draw : BitVec 64 → BitVec 64 → BitVec w} {a : BitVec w}
include hw

/-- RINT and CVTI of a number: the integer that the mode makes of it. -/
theorem FpFormat.Fits.exists_rounded_integer (rm : RoundingMode) {x : ℚ} (hx : F.number a.toNat = some x) :
    ∃ n : ℤ, RoundsToInteger rm x n ∧ F.number (F.unary draw (F.rint rm) a).toNat = some (n : ℚ) ∧
      (F.unary draw (F.rint rm) a).msb = a.msb ∧
      F.toWord rm a.toNat = if -2 ^ 63 ≤ n ∧ n < 2 ^ 63 then some (BitVec.ofInt 64 n) else none := by
  obtain ⟨m, q, hv, hsize, hval, hm, -, hlt⟩ := FpFormat.value_of_number hx
  rw [hw.negOf_toNat] at hv hval
  obtain ⟨i, hi, hwhole⟩ := hw.exists_size_eq_wholeNumber rm a.msb hm hlt hsize
  have hi' := hi.trans F.infinity_lt_signBit
  have hrint : F.rint rm a.toNat = some (F.sign a.msb + i) := by
    rw [rint, hv]
    exact congrArg some (round_of_size_eq rm _ hi (by rw [hwhole, zpow_zero, mul_one]))
  have hbits := hw.toNat_unary (draw := draw) hrint (sign_add_lt _ hi')
  refine ⟨signed a.msb (wholeNumber rm a.msb m q : ℤ), ?_, ?_, ?_, ?_⟩
  · rw [hval]
    exact roundsToInteger_wholeNumber rm a.msb m q
  · rw [hbits, number_sign_add _ hi, hwhole, cast_signed_int]
  · rw [← hw.negOf_toNat, hbits, negOf_sign_add _ hi']
  · rw [toWord, hv]
    rfl

theorem FpFormat.Fits.rint_of_number_int (rm : RoundingMode) {n : ℤ} (hn : F.number a.toNat = some (n : ℚ)) :
    F.unary draw (F.rint rm) a = a := by
  obtain ⟨n', hround, hnum, hmsb, -⟩ := hw.exists_rounded_integer (draw := draw) rm hn
  rw [hround.eq_of_int] at hnum
  exact hw.eq_of_number_eq hmsb hnum hn

theorem FpFormat.Fits.rint_of_isInf (rm : RoundingMode) (h : F.isInf a.toNat = true) : F.unary draw (F.rint rm) a = a :=
  F.unary_eq_self (by rw [rint, hw.value_of_isInf h]; exact congrArg some (hw.toNat_of_isInf h).symm)

theorem FpFormat.Fits.isNan_rint (rm : RoundingMode) (h : F.isNan a.toNat = true) :
    F.isNan (F.unary draw (F.rint rm) a).toNat = true :=
  hw.isNan_unary (by rw [rint, value_of_isNan h])

/-- An integer of few enough digits is converted exactly. -/
theorem FpFormat.Fits.number_ofWord (rm : RoundingMode) {v : Word} (hv : v.toInt.natAbs ≤ 2 ^ (F.fracBits + 1))
    (hlt : F.fracBits < F.bias) : F.number (BitVec.ofNat w (F.ofWord rm v)).toNat = some (v.toInt : ℚ) := by
  have hlow : F.lowest ≤ 0 := by rw [lowest]; omega
  have hrange : (v.toInt.natAbs : ℚ) * 2 ^ (0 : ℤ) < 2 ^ ((F.bias : ℤ) + 1) := by
    have hv' : (v.toInt.natAbs : ℚ) ≤ 2 ^ (F.fracBits + 1) := by exact_mod_cast hv
    rw [zpow_zero, mul_one]
    refine hv'.trans_lt ?_
    rw [← zpow_natCast]
    exact zpow_lt_zpow_right₀ one_lt_two (by omega)
  obtain ⟨i, hi, hsize⟩ := hw.exists_lt_infinity_size_eq hv hlow hrange
  have hround := round_of_size_eq rm (decide (v.toInt < 0)) hi hsize.symm
  rw [zpow_zero, mul_one] at hsize
  rw [ofWord, hround, hw.toNat_ofNat (sign_add_lt _ (hi.trans F.infinity_lt_signBit)), number_sign_add _ hi, hsize, signed_natAbs]

end WholeNumbers

/-- Settles O50: an integer of at most 53 digits has a pattern, and an integer is not changed by rounding. -/
theorem integersSurviveDouble : Obligations.IntegersSurviveDouble := by
  intro rm v hv
  have hnumber : double.number ((ieee rm).double.fromInt v).toNat = some (v.toInt : ℚ) :=
    fits_double.number_ofWord rm hv (by decide)
  refine ⟨hnumber, BitVec.eq_of_toInt_eq ?_⟩
  obtain ⟨n, hround, -, -, hword⟩ := fits_double.exists_rounded_integer (draw := nanDrawD rm .rint) rm hnumber
  obtain rfl := hround.eq_of_int
  have hint := toInt_getD_ofInt (n := v.toInt) (by omega) (by omega) (toIntOpenD rm ((ieee rm).double.fromInt v))
  rwa [← hword] at hint

/-- Settles O54: the magnitude is rounded by the mode, and the whole number that comes out has a pattern. -/
theorem roundingToIntegers : Obligations.RoundingToIntegers := by
  refine ⟨fun rm a => ?single, fun rm a => ?double⟩
  case' single => have hw := fits_single
  case' double => have hw := fits_double
  all_goals
    refine ⟨fun x hx => ?_, fun n hn => hw.rint_of_number_int rm hn, hw.rint_of_isInf rm, hw.isNan_rint rm⟩
    obtain ⟨n, hround, hnum, hmsb, hword⟩ := hw.exists_rounded_integer rm hx
    refine ⟨n, hround, hnum, hmsb, fun hlo hhi => ?_⟩
    have hint := toInt_getD_ofInt hlo hhi
    rw [← hword] at hint
    exact hint _

end Sys2Proof.Machine

/-! SUPPORT. The floating-point operations that round to nearest, ties to even: sums, products, quotients, square roots and
conversions (44_floating_point.md sections 1, 2 and 4). -/

namespace Sys2Proof.Machine

open Sys2Proof Config

section Rounding

variable {F : FpFormat} {w : Nat} (hw : F.Fits w) {draw draw' : BitVec 64 → BitVec 64 → BitVec w} {a b : BitVec w} {x y : ℚ}
include hw

/-! ### Sums (R387, R388) -/

theorem FpFormat.Fits.rounded_add (hx : F.number a.toNat = some x) (hy : F.number b.toNat = some y) (h0 : x + y ≠ 0) :
    F.Rounded (decide (x + y < 0)) ((x + y : ℚ) : ℝ) (F.binary draw (F.add .nearestEven) a b).toNat := by
  obtain ⟨m₁, q₁, hva, rfl, -⟩ := hw.value_of_number hx
  obtain ⟨m₂, q₂, hvb, rfl, -⟩ := hw.value_of_number hy
  have hadd : F.add .nearestEven a.toNat b.toNat = some (F.sumFinite .nearestEven a.msb m₁ q₁ b.msb m₂ q₂) := by
    rw [add, hva, hvb]
  rw [hw.toNat_binary hadd (FpFormat.sumFinite_lt ..)]
  exact hw.rounded_sumFinite _ _ _ _ _ _ rfl h0

/-- A sum that is zero is -0 only of two negative zeros. -/
theorem FpFormat.Fits.add_of_sum_zero (hx : F.number a.toNat = some x) (hy : F.number b.toNat = some y) (h0 : x + y = 0) :
    F.binary draw (F.add .nearestEven) a b = if a.msb = true ∧ b.msb = true then BitVec.intMin w else 0 := by
  obtain ⟨m₁, q₁, hva, rfl, -⟩ := hw.value_of_number hx
  obtain ⟨m₂, q₂, hvb, rfl, -⟩ := hw.value_of_number hy
  have hadd : F.add .nearestEven a.toNat b.toNat = some (F.sign (a.msb && b.msb)) := by
    rw [add, hva, hvb]
    exact congrArg some (sumFinite_of_zero _ _ _ _ _ _ h0)
  rw [binary, hadd, settle, hw.ofNat_sign]
  simp only [Bool.and_eq_true]

/-- An infinity is the sum, on either side, unless the other operand is a NaN or the other infinity. -/
theorem FpFormat.Fits.add_of_isInf (rm : RoundingMode) (ha : F.isInf a.toNat = true) (hb : F.isNan b.toNat = false)
    (hab : F.isInf b.toNat = true → b = a) :
    F.add rm a.toNat b.toNat = some a.toNat ∧ F.add rm b.toNat a.toNat = some a.toNat := by
  have hbits := congrArg some (hw.toNat_of_isInf ha).symm
  rw [add, add, hw.value_of_isInf ha]
  obtain ⟨hnan, -⟩ | ⟨hinf, -⟩ | ⟨-, hv⟩ := F.value_cases b.toNat
  · rw [hb] at hnan
    cases hnan
  · rw [hab hinf, hw.value_of_isInf ha]
    exact ⟨(if_pos rfl).trans hbits, (if_pos rfl).trans hbits⟩
  · rw [hv]
    exact ⟨hbits, hbits⟩

/-- Two infinities that differ have different signs. -/
theorem FpFormat.Fits.add_of_isInf_ne (ha : F.isInf a.toNat = true) (hb : F.isInf b.toNat = true) (hab : a ≠ b) :
    F.add .nearestEven a.toNat b.toNat = none := by
  have hmsb : a.msb ≠ b.msb := fun h =>
    hab (BitVec.eq_of_toNat_eq (by rw [hw.toNat_of_isInf ha, hw.toNat_of_isInf hb, h]))
  rw [add, hw.value_of_isInf ha, hw.value_of_isInf hb]
  exact if_neg hmsb

omit hw in
theorem FpFormat.operations_of_isNan (rm : RoundingMode) {p p' : Nat} (h : F.isNan p = true ∨ F.isNan p' = true) :
    F.add rm p p' = none ∧ F.mul rm p p' = none ∧ F.div rm p p' = none := by
  obtain h | h := h
  · rw [add, mul, div, value_of_isNan h]
    exact ⟨rfl, rfl, rfl⟩
  · rw [add, mul, div, value_of_isNan h]
    cases F.value p <;> exact ⟨rfl, rfl, rfl⟩

theorem FpFormat.Fits.isNan_add
    (h : F.isInf a.toNat = true ∧ F.isInf b.toNat = true ∧ a ≠ b ∨ F.isNan a.toNat = true ∨ F.isNan b.toNat = true) :
    F.isNan (F.binary draw (F.add .nearestEven) a b).toNat = true := by
  obtain ⟨ha, hb, hab⟩ | h := h
  · exact hw.isNan_binary (hw.add_of_isInf_ne ha hb hab)
  · exact hw.isNan_binary (operations_of_isNan .nearestEven h).1

/-! ### Products and quotients (R391 to R394) -/

theorem FpFormat.Fits.rounded_mul (hx : F.number a.toNat = some x) (hy : F.number b.toNat = some y) :
    F.Rounded (a.msb ^^ b.msb) ((x * y : ℚ) : ℝ) (F.binary draw (F.mul .nearestEven) a b).toNat := by
  obtain ⟨m₁, q₁, hva, rfl, -⟩ := hw.value_of_number hx
  obtain ⟨m₂, q₂, hvb, rfl, -⟩ := hw.value_of_number hy
  have hmul : F.mul .nearestEven a.toNat b.toNat = some (F.round .nearestEven (a.msb ^^ b.msb) (m₁ * m₂) (q₁ + q₂)) := by
    rw [mul, hva, hvb]
  have hval : ((m₁ : ℝ) * 2 ^ q₁) * (m₂ * 2 ^ q₂) = (m₁ * m₂ : Nat) * 2 ^ (q₁ + q₂) := by
    rw [zpow_add₀ two_ne_zero]
    push_cast
    ring
  rw [hw.toNat_binary hmul (F.round_lt ..), signed_mul_signed, cast_signed]
  push_cast
  rw [hval]
  exact hw.rounded_round _ _ _

theorem FpFormat.Fits.rounded_div (hx : F.number a.toNat = some x) (hy : F.number b.toNat = some y) (h0 : y ≠ 0) :
    F.Rounded (a.msb ^^ b.msb) ((x / y : ℚ) : ℝ) (F.binary draw (F.div .nearestEven) a b).toNat := by
  obtain ⟨m₁, q₁, hva, rfl, -⟩ := hw.value_of_number hx
  obtain ⟨m₂, q₂, hvb, rfl, hzero⟩ := hw.value_of_number hy
  have hm₂ : m₂ ≠ 0 := mt hzero.2 h0
  have hdiv : F.div .nearestEven a.toNat b.toNat = some (F.quotient .nearestEven (a.msb ^^ b.msb) m₁ q₁ m₂ q₂) := by
    rw [div, hva, hvb]
    exact if_neg hm₂
  rw [hw.toNat_binary hdiv (F.round_lt ..), signed_div_signed, cast_signed]
  push_cast
  exact hw.rounded_quotient _ _ _ hm₂ _

theorem FpFormat.Fits.div_zero (hx : F.number a.toNat = some x) (hy : F.number b.toNat = some y) (hy0 : y = 0) (hx0 : x ≠ 0) :
    F.value (F.binary draw (F.div .nearestEven) a b).toNat = .inf (a.msb ^^ b.msb) := by
  obtain ⟨m₁, q₁, hva, -, hzero₁⟩ := hw.value_of_number hx
  obtain ⟨m₂, q₂, hvb, -, hzero₂⟩ := hw.value_of_number hy
  refine hw.value_binary_of_inf ?_
  rw [div, hva, hvb]
  exact (if_pos (hzero₂.1 hy0)).trans (if_neg (mt hzero₁.2 hx0))

theorem FpFormat.Fits.isNan_zero_div_zero (hx : F.number a.toNat = some x) (hy : F.number b.toNat = some y) (hy0 : y = 0)
    (hx0 : x = 0) :
    F.isNan (F.binary draw (F.div .nearestEven) a b).toNat = true := by
  obtain ⟨m₁, q₁, hva, -, hzero₁⟩ := hw.value_of_number hx
  obtain ⟨m₂, q₂, hvb, -, hzero₂⟩ := hw.value_of_number hy
  refine hw.isNan_binary ?_
  rw [div, hva, hvb]
  exact (if_pos (hzero₂.1 hy0)).trans (if_pos (hzero₁.1 hx0))

theorem FpFormat.Fits.mul_of_isInf_of_number (ha : F.isInf a.toNat = true) (hy : F.number b.toNat = some y) (h0 : y ≠ 0) :
    F.value (F.binary draw (F.mul .nearestEven) a b).toNat = .inf (a.msb ^^ b.msb) ∧
      F.value (F.binary draw' (F.mul .nearestEven) b a).toNat = .inf (a.msb ^^ b.msb) := by
  obtain ⟨m, q, hv, -, hzero⟩ := hw.value_of_number hy
  refine ⟨hw.value_binary_of_inf ?_, hw.value_binary_of_inf ?_⟩
  · rw [mul, hw.value_of_isInf ha, hv]
    exact if_neg (mt hzero.2 h0)
  · rw [mul, hw.value_of_isInf ha, hv, Bool.xor_comm]
    exact if_neg (mt hzero.2 h0)

theorem FpFormat.Fits.isNan_mul_of_isInf_of_zero (ha : F.isInf a.toNat = true) (hy : F.number b.toNat = some y) (h0 : y = 0) :
    F.isNan (F.binary draw (F.mul .nearestEven) a b).toNat = true ∧
      F.isNan (F.binary draw' (F.mul .nearestEven) b a).toNat = true := by
  obtain ⟨m, q, hv, -, hzero⟩ := hw.value_of_number hy
  refine ⟨hw.isNan_binary ?_, hw.isNan_binary ?_⟩ <;> rw [mul, hw.value_of_isInf ha, hv] <;> exact if_pos (hzero.1 h0)

theorem FpFormat.Fits.div_of_isInf_of_number (ha : F.isInf a.toNat = true) (hy : F.number b.toNat = some y) :
    F.value (F.binary draw (F.div .nearestEven) a b).toNat = .inf (a.msb ^^ b.msb) ∧
      F.binary draw' (F.div .nearestEven) b a = if (a.msb ^^ b.msb) = true then BitVec.intMin w else 0 := by
  obtain ⟨m, q, hv, -⟩ := hw.value_of_number hy
  refine ⟨hw.value_binary_of_inf (by rw [div, hw.value_of_isInf ha, hv]), ?_⟩
  rw [← hw.ofNat_sign, Bool.xor_comm, binary, div, hw.value_of_isInf ha, hv]
  rfl

theorem FpFormat.Fits.mul_div_of_isInf (ha : F.isInf a.toNat = true) (hb : F.isInf b.toNat = true) :
    F.value (F.binary draw (F.mul .nearestEven) a b).toNat = .inf (a.msb ^^ b.msb) ∧
      F.isNan (F.binary draw' (F.div .nearestEven) a b).toNat = true := by
  refine ⟨hw.value_binary_of_inf ?_, hw.isNan_binary ?_⟩
  · rw [mul, hw.value_of_isInf ha, hw.value_of_isInf hb]
  · rw [div, hw.value_of_isInf ha, hw.value_of_isInf hb]

theorem FpFormat.Fits.isNan_mul_div (h : F.isNan a.toNat = true ∨ F.isNan b.toNat = true) :
    F.isNan (F.binary draw (F.mul .nearestEven) a b).toNat = true ∧
      F.isNan (F.binary draw' (F.div .nearestEven) a b).toNat = true := by
  obtain ⟨-, hmul, hdiv⟩ := operations_of_isNan (F := F) .nearestEven h
  exact ⟨hw.isNan_binary hmul, hw.isNan_binary hdiv⟩

/-! ### Square roots (R364, R365) -/

theorem FpFormat.Fits.rounded_sqrt (hx : F.number a.toNat = some x) (hpos : 0 < x) :
    F.Rounded false (Real.sqrt (x : ℝ)) (F.unary draw (F.sqrt .nearestEven) a).toNat := by
  obtain ⟨m, q, hv, hval, hzero⟩ := hw.value_of_number hx
  have hm : m ≠ 0 := mt hzero.2 hpos.ne'
  have hmsb : a.msb = false := eq_false_of_signed_pos (by positivity) (hval ▸ hpos)
  have hsqrt : F.sqrt .nearestEven a.toNat = some (F.rootFinite .nearestEven m q) := by
    rw [sqrt, hv, hmsb]
    exact if_neg hm
  have hcast : (x : ℝ) = m * 2 ^ q := by
    rw [hval, hmsb]
    simp [signed]
  rw [hw.toNat_unary hsqrt (F.round_lt ..), hcast]
  exact hw.rounded_rootFinite hm q

theorem FpFormat.Fits.sqrt_of_zero (hx : F.number a.toNat = some x) (h0 : x = 0) : F.unary draw (F.sqrt .nearestEven) a = a := by
  obtain ⟨m, q, hv, -, hzero⟩ := hw.value_of_number hx
  have hsqrt : F.sqrt .nearestEven a.toNat = some (F.sign a.msb) := by
    rw [sqrt, hv]
    exact if_pos (hzero.1 h0)
  exact F.unary_eq_self (hsqrt.trans (congrArg some (hw.toNat_of_number_zero (h0 ▸ hx)).symm))

theorem FpFormat.Fits.isNan_sqrt_of_neg (hx : F.number a.toNat = some x) (hneg : x < 0) :
    F.isNan (F.unary draw (F.sqrt .nearestEven) a).toNat = true := by
  obtain ⟨m, q, hv, hval, hzero⟩ := hw.value_of_number hx
  have hm : m ≠ 0 := mt hzero.2 hneg.ne
  have hmsb : a.msb = true := eq_true_of_signed_neg (by positivity) (hval ▸ hneg)
  refine hw.isNan_unary ?_
  rw [sqrt, hv, hmsb]
  exact (if_neg hm).trans (if_pos rfl)

theorem FpFormat.Fits.sqrt_of_isInf (ha : F.isInf a.toNat = true) (hmsb : a.msb = false) :
    F.unary draw (F.sqrt .nearestEven) a = a := by
  have hbits : a.toNat = F.infinity := by
    rw [hw.toNat_of_isInf ha, hmsb]
    simp [sign]
  have hsqrt : F.sqrt .nearestEven a.toNat = some F.infinity := by
    rw [sqrt, hw.value_of_isInf ha, hmsb]
    rfl
  exact F.unary_eq_self (hsqrt.trans (congrArg some hbits.symm))

theorem FpFormat.Fits.isNan_sqrt_of_isInf (ha : F.isInf a.toNat = true) (hmsb : a.msb = true) :
    F.isNan (F.unary draw (F.sqrt .nearestEven) a).toNat = true := by
  refine hw.isNan_unary ?_
  rw [sqrt, hw.value_of_isInf ha, hmsb]
  rfl

theorem FpFormat.Fits.isNan_sqrt (ha : F.isNan a.toNat = true) : F.isNan (F.unary draw (F.sqrt .nearestEven) a).toNat = true :=
  hw.isNan_unary (by rw [sqrt, value_of_isNan ha])

/-! ### Conversions (R366 to R369) -/

theorem FpFormat.Fits.rounded_ofWord (v : Word) :
    F.Rounded (decide (v.toInt < 0)) (v.toInt : ℝ) (BitVec.ofNat w (F.ofWord .nearestEven v)).toNat := by
  have hround := hw.rounded_round (decide (v.toInt < 0)) v.toInt.natAbs 0
  rw [zpow_zero, mul_one, signed_natAbs] at hround
  rwa [ofWord, hw.toNat_ofNat (F.round_lt ..)]

theorem FpFormat.Fits.rounded_convert {G : FpFormat} {w' : Nat} (hG : G.Fits w') (draw : BitVec w')
    (hx : F.number a.toNat = some x) :
    G.Rounded a.msb (x : ℝ) (G.settle draw (F.convert G .nearestEven a.toNat)).toNat := by
  obtain ⟨m, q, hv, rfl, -⟩ := hw.value_of_number hx
  have hconvert : F.convert G .nearestEven a.toNat = some (G.round .nearestEven a.msb m q) := by rw [convert, hv]
  rw [hconvert, hG.toNat_settle _ (G.round_lt ..), cast_signed]
  push_cast
  exact hG.rounded_round _ _ _

theorem FpFormat.Fits.value_convert_of_isInf {G : FpFormat} {w' : Nat} (hG : G.Fits w') (draw : BitVec w')
    (ha : F.isInf a.toNat = true) : G.value (G.settle draw (F.convert G .nearestEven a.toNat)).toNat = .inf a.msb := by
  rw [convert_of_isInf G _ ha, hG.toNat_settle _ (sign_add_lt _ G.infinity_lt_signBit), value_sign_add_infinity, hw.negOf_toNat]

omit hw in
theorem FpFormat.Fits.isNan_convert {G : FpFormat} {w' : Nat} (hG : G.Fits w') (draw : BitVec w') (ha : F.isNan a.toNat = true) :
    G.isNan (G.settle draw (F.convert G .nearestEven a.toNat)).toNat = true := by
  rw [convert_of_isNan G _ ha, hG.isNan_settle_none]

end Rounding

/-! ### The statements -/

/-- Settles O51: the sum is computed exactly and then rounded. -/
theorem additionRoundsToNearest : Obligations.AdditionRoundsToNearest := by
  refine ⟨fun a b => ?single, fun a b => ?double⟩
  case' single => have hw := fits_single
  case' double => have hw := fits_double
  all_goals
    exact ⟨fun x y hx hy => ⟨hw.rounded_add hx hy, hw.add_of_sum_zero hx hy⟩,
      fun ha hb hab => FpFormat.binary_eq_left _ (hw.add_of_isInf _ ha hb hab).1,
      fun hb ha hba => FpFormat.binary_eq_right _ (hw.add_of_isInf _ hb ha hba).2, hw.isNan_add⟩

/-- Settles O52: the product is computed exactly, and the quotient to enough digits and one that says whether something was left
over. -/
theorem productsAndQuotientsRoundToNearest : Obligations.ProductsAndQuotientsRoundToNearest := by
  refine ⟨fun a b => ?single, fun a b => ?double⟩
  case' single => have hw := fits_single
  case' double => have hw := fits_double
  all_goals
    refine ⟨fun x y hx hy => ?numbers, fun y ha hy => ?infinityAndNumber, hw.mul_div_of_isInf, hw.isNan_mul_div⟩
    case numbers => exact ⟨hw.rounded_mul hx hy, hw.rounded_div hx hy, hw.div_zero hx hy, hw.isNan_zero_div_zero hx hy⟩
    case infinityAndNumber =>
      obtain ⟨hinf, hzero⟩ := hw.div_of_isInf_of_number ha hy
      exact ⟨hw.mul_of_isInf_of_number ha hy, hw.isNan_mul_of_isInf_of_zero ha hy, hinf, hzero⟩

/-- Settles O53: the root is computed to enough digits and one that says whether something was left over. -/
theorem squareRootsRoundToNearest : Obligations.SquareRootsRoundToNearest := by
  refine ⟨fun a => ?single, fun a => ?double⟩
  case' single => have hw := fits_single
  case' double => have hw := fits_double
  all_goals
    exact ⟨fun x hx => ⟨hw.rounded_sqrt hx, hw.sqrt_of_zero hx, hw.isNan_sqrt_of_neg hx⟩, hw.sqrt_of_isInf,
      hw.isNan_sqrt_of_isInf, hw.isNan_sqrt⟩

/-- Settles O55: the number that is converted is rounded once. -/
theorem conversionsRoundToNearest : Obligations.ConversionsRoundToNearest :=
  ⟨fun _ _ hx => fits_double.rounded_convert fits_single _ hx,
    fun v => ⟨fits_single.rounded_ofWord v, fits_double.rounded_ofWord v⟩,
    fun _ => ⟨fits_double.value_convert_of_isInf fits_single _, FpFormat.Fits.isNan_convert fits_single _⟩,
    fun _ => FpFormat.Fits.isNan_convert fits_double _⟩

end Sys2Proof.Machine

/-! SUPPORT. The system instructions and the special moves: how a call, a return, a privileged instruction and a move end
(45_system.md). -/

namespace Sys2Proof.Machine

open Sys2Proof

/-! ### Privileged instructions (R433, R442, R443; D15, D33) -/

/-- At EL0 a privileged instruction raises IllegalSysReg, whatever its effect would have been. -/
theorem Completes.of_privileged_of_user {i : Instr} {s t : State} (hi : exec i s = .next (s.privileged t)) (hl : s.el = 0) :
    Completes i s (Raised s 1 none) :=
  ⟨s.raise .illegalSysReg, hi.trans (congrArg Host.Outcome.next (if_pos hl)), s.raised_raise .illegalSysReg⟩

/-- Above EL0 a privileged instruction has its effect. -/
theorem Completes.of_privileged_of_above_user {i : Instr} {s t : State} {P : State → Prop}
    (hi : exec i s = .next (s.privileged t)) (hl : s.el ≠ 0) (ht : P t) : Completes i s P :=
  ⟨t, hi.trans (congrArg Host.Outcome.next (State.privileged_of_above_user hl t)), ht⟩

/-! ### The return from an exception (R433, R459; D27) -/

theorem State.returnFrom_pcByte (s : State) (n : BitVec 12) :
    (s.returnFrom n).pcByte = (s.readE 16 &&& ~~~3) + n.signExtend 64 * 4 := by
  have haddr : (s.returnFrom n).pcAddr = wordAddr (s.readE 16) + n.signExtend 62 := append_high_bits _ _
  rw [State.pcByte, haddr, registerTarget_bytes]

/-- A return moves the pc and its level and leaves everything else. -/
theorem State.returnFrom_frame (s : State) (n : BitVec 12) :
    SameR s (s.returnFrom n) ∧ SameE s (s.returnFrom n) ∧ SameMemory s (s.returnFrom n) ∧ SameRest s (s.returnFrom n) :=
  ⟨fun _ => rfl, fun _ => rfl, fun _ => rfl, by simp [SameRest, SameParameters]⟩

/-! ### The end of a special move (R436 to R440) -/

/-- A write to a general register by its own number, at either level, and then the next instruction. -/
theorem State.wroteR_writeR_advance (s : State) (d : Reg) (v : Word) :
    WroteR s (s.writeR d v).advance d v ∧ SameMemory s (s.writeR d v).advance ∧ SameRest s (s.writeR d v).advance ∧
      AtNext s (s.writeR d v).advance :=
  ⟨s.wroteR_writeR d v, fun _ => rfl, by simp [SameRest, SameParameters], by simp [AtNext, PcAt, State.pcByte_advance]⟩

/-- A write to an exception register, reserved ones and INTS included (R30, R36), and then the next instruction. -/
theorem State.wroteE_writeE_advance (s : State) (d : Reg) (v : Word) :
    WroteE s (s.writeE d v).advance d v ∧ SameMemory s (s.writeE d v).advance ∧ SameRest s (s.writeE d v).advance ∧
      AtNext s (s.writeE d v).advance :=
  ⟨s.wroteE_writeE d v, fun _ => by simp, by simp [SameRest, SameParameters], by simp [AtNext, PcAt, State.pcByte_advance]⟩

/-! ### The instructions -/

/-- Settles O56: a call is the entry of its type, with the service code as ECODE and no bad address. -/
theorem callsTakeTheirExceptions : Obligations.CallsTakeTheirExceptions := fun s imm =>
  ⟨⟨_, rfl, s.tookException_enter .systemCall (serviceCode imm) none⟩,
    ⟨_, rfl, s.tookException_enter .debuggerCall (serviceCode imm) none⟩⟩

/-- Settles O57: above EL0 the effect of SRET is the return, which touches only the pc and its level. -/
theorem returnFromException : Obligations.ReturnFromException := by
  intro s imm hl
  obtain ⟨hR, hE, hmem, hrest⟩ := s.returnFrom_frame imm
  exact .of_privileged_of_above_user rfl hl ⟨hR, hE, hmem, hrest, s.returnFrom_el imm, s.returnFrom_pcByte imm⟩

/-- Settles O58: each of the four is a privileged instruction. -/
theorem privilegedInstructionsTrapAtUserLevel : Obligations.PrivilegedInstructionsTrapAtUserLevel := fun _ _ _ _ hl =>
  ⟨.of_privileged_of_user rfl hl, .of_privileged_of_user rfl hl, .of_privileged_of_user rfl hl, .of_privileged_of_user rfl hl⟩

/-- Settles O59: each move writes one register by its own number; all but MOVRC are privileged. -/
theorem movesComplete : Obligations.MovesComplete := by
  intro s a d
  refine ⟨⟨_, rfl, s.wroteR_writeR_advance d (s.readC a)⟩, fun hl => ⟨?movec, ?mover, ?movre⟩⟩
  case movec => exact .of_privileged_of_above_user rfl hl (s.wroteE_writeE_advance d (s.readC a))
  case mover => exact .of_privileged_of_above_user rfl hl (s.wroteE_writeE_advance d (s.readR a))
  case movre => exact .of_privileged_of_above_user rfl hl (s.wroteR_writeR_advance d (s.readE a))

end Sys2Proof.Machine

/-! SUPPORT. The step around the instruction: what a step is that reaches its fetch, and which interrupt is taken instead
(60_exceptions.md). -/

namespace Sys2Proof.Machine

open Sys2Proof

/-! ### The level and the fetch (R26, R68, R476) -/

theorem step_of_reservedLevel {s : State} (h : reservedLevel s.el = true) : step s = .refused (.reservedLevel s.el) := if_pos h

theorem step_of_level {s : State} (hl : s.el.toNat < 2) : step s = s.cycle := by
  have hexists : ¬ reservedLevel s.el = true := by simp [reservedLevel]; omega
  exact if_neg hexists

theorem ReachesFetch.step_eq {s : State} (h : ReachesFetch s) : step s = s.begun.fetchAndExecute := by
  obtain ⟨hl, hnone⟩ := h
  rw [step_of_level hl, State.cycle, hnone]

/-- The start of a step changes nothing that a permission depends on (R70). -/
@[simp] theorem State.begun_accessOk (s : State) (k : AccessKind) (addr : Word) (n : Nat) :
    s.begun.accessOk k addr n = s.accessOk k addr n := by simp [State.accessOk]

/-- The start of a step changes nothing that a fetch depends on (R68). -/
@[simp] theorem State.begun_fetchWord (s : State) (addr : Word) : s.begun.fetchWord addr = s.fetchWord addr := by
  simp [State.fetchWord, State.bytesAt]

theorem State.fetchWord_refused {s : State} {addr : Word} (h : s.accessOk .fetch addr 4 = false) :
    s.fetchWord addr = .trap (.illegalFetch addr) := by
  simp [State.fetchWord, h]

theorem State.fetchWord_of_fetchReady {s : State} {addr : Word} {w : BitVec 32} (h : FetchReady s addr w) :
    s.fetchWord addr = .done w := by
  obtain ⟨hok, hbytes⟩ := h
  exact State.fetchWord_done hok hbytes

theorem State.fetchWord_of_lacksByte {s : State} {addr : Word} (hok : s.accessOk .fetch addr 4 = true)
    (h : LacksByte s addr 4) : s.fetchWord addr = .stuck (.noValue addr) := by
  simp [State.fetchWord, hok, State.bytesAt_of_lacksByte h, Attempt.bind]

section Fetching

variable {s : State} (h : ReachesFetch s)
include h

theorem ReachesFetch.step_of_done {w : BitVec 32} (hw : s.fetchWord s.pcByte = .done w) : step s = s.begun.executeWord w := by
  rw [h.step_eq, State.fetchAndExecute, State.begun_pcByte, State.begun_fetchWord, hw]

theorem ReachesFetch.step_of_trap {c : SyncCause} (hc : s.fetchWord s.pcByte = .trap c) : step s = .next (s.begun.raise c) := by
  rw [h.step_eq, State.fetchAndExecute, State.begun_pcByte, State.begun_fetchWord, hc]

theorem ReachesFetch.step_of_stuck {f : Fault} (hf : s.fetchWord s.pcByte = .stuck f) : step s = .fault f := by
  rw [h.step_eq, State.fetchAndExecute, State.begun_pcByte, State.begun_fetchWord, hf]

end Fetching

/-! ### The fetched word (R120, R121, R452) -/

theorem State.executeWord_of_ok {s : State} {w : BitVec 32} {i : Instr} (h : decode s.nopCode w = .ok i) :
    s.executeWord w = exec i s := by
  rw [State.executeWord, h]

theorem State.executeWord_of_error {s : State} {w : BitVec 32} {e : DecodeError} (h : decode s.nopCode w = .error e) :
    s.executeWord w = .next (s.raise .invalidInstruction) := by
  rw [State.executeWord, h]

/-- Settles O10: the fetch and the decoder answer in the begun state what they answer before it. -/
theorem stepRunsTheDecodedInstruction : Obligations.StepRunsTheDecodedInstruction := by
  intro s w i hs hw hi _
  rw [hs.step_of_done (State.fetchWord_of_fetchReady hw)]
  exact State.executeWord_of_ok (by rwa [State.begun_nopCode])

/-- Settles O12: the level comes first, then the three ways in which the fetch and the decoding give no instruction. -/
theorem stepWithoutAnInstruction : Obligations.StepWithoutAnInstruction := by
  refine fun s => ⟨fun hl => ?level, fun hs => ⟨fun hno => ?refused, fun w e hw he => ?undefined, fun hok hlacks => ?missing⟩⟩
  case level =>
    refine step_of_reservedLevel ?_
    obtain hl | hl := hl <;> rw [hl] <;> rfl
  case refused =>
    exact ⟨_, hs.step_of_trap (State.fetchWord_refused hno), s.begun.raised_raise (.illegalFetch s.pcByte)⟩
  case undefined =>
    have hundefined : decode s.begun.nopCode w = .error e := by rwa [State.begun_nopCode]
    have hstep : step s = .next (s.begun.raise .invalidInstruction) :=
      (hs.step_of_done (State.fetchWord_of_fetchReady hw)).trans (State.executeWord_of_error hundefined)
    exact ⟨_, hstep, s.begun.raised_raise .invalidInstruction⟩
  case missing => exact hs.step_of_stuck (State.fetchWord_of_lacksByte hok hlacks)

/-! ### The source that is taken (R463, R466; D18) -/

/-- The pending enabled sources, bit by bit. -/
theorem State.activeSources_eq {s : State} {w : Word}
    (h : ∀ k : Nat, w.getLsbD k =
      (s.irqSources.getLsbD k && (s.readE 19).getLsbD k && (s.irq.enabled (s.readE 20)).getLsbD k)) :
    s.activeSources = w := by
  refine BitVec.eq_of_getLsbD_eq fun k _ => ?_
  have hints : s.readE 19 = s.e[intsNo] := s.readE_of_defined (by decide)
  have hintm : s.readE 20 = s.e[intmNo] := s.readE_of_defined (by decide)
  rw [h k, hints, hintm, State.activeSources, BitVec.getLsbD_and, BitVec.getLsbD_and, Bool.and_assoc]

/-- Where interrupts can be taken, one is taken of the pending enabled sources, if there is one. -/
theorem State.chosenSource_of_taken {s : State} (hl : s.el = 0 ∨ s.irqAtEl1 = true) :
    s.chosenSource = s.takenOf s.activeSources := by
  unfold State.chosenSource
  split
  next hnone =>
    have hactive : s.activeSources = 0 := by simp [State.activeSources, hnone]
    exact ((s.takenOf_eq_none _).mpr hactive).symm
  next => exact if_pos (by simpa using hl)

theorem State.chosenSource_of_no_active {s : State} (h : s.activeSources = 0) : s.chosenSource = none := by
  refine Option.eq_none_iff_forall_ne_some.mpr fun k hk => ?_
  obtain ⟨-, htaken⟩ := State.chosenSource_eq_some hk
  rw [(s.takenOf_eq_none _).mpr h] at htaken
  cases htaken

/-- A platform that takes no interrupt above EL0 takes none there, whatever is pending. -/
theorem State.chosenSource_of_not_taken {s : State} (hl : s.el ≠ 0) (hno : s.irqAtEl1 = false) : s.chosenSource = none := by
  refine Option.eq_none_iff_forall_ne_some.mpr fun k hk => ?_
  obtain ⟨huser | htaken, -⟩ := State.chosenSource_eq_some hk
  · exact hl huser
  · simp [hno] at htaken

theorem State.irq_of_standard {s : State} (h : s.irqInstance = .standard) : s.irq = standardIrq := congrArg irqRules h

/-- The default rules take the lowest source (D18). -/
theorem State.takenOf_of_standard {s : State} (h : s.irqInstance = .standard) {w : Word} {k : Nat} (hk : lowestBit w = some k) :
    s.takenOf w = some k := by
  obtain ⟨hset, -⟩ := (lowestBit_eq_some w k).mp hk
  rw [State.takenOf, State.irq_of_standard h, standardIrq_choose w k hk, if_pos hset]

/-- The step that takes the interrupt of source `k` is the entry into the asynchronous handler (R466). -/
theorem step_of_chosenSource {s : State} (hl : s.el.toNat < 2) {k : Nat} (hk : s.begun.chosenSource = some k) :
    ∃ t, step s = .next t ∧ TookException s.begun 0xC0 (s.irq.ecode k) none t := by
  refine ⟨s.begun.takeInterrupt k, ?_, ?_⟩
  · rw [step_of_level hl, State.cycle, hk]
  · rw [State.takeInterrupt, State.begun_irq]
    exact s.begun.tookException_enter .asynchronous (s.irq.ecode k) none

/-- Settles O13: `w` is the word of the pending enabled sources as the step begins, and the source is the one taken of it. -/
theorem takingAnInterrupt : Obligations.TakingAnInterrupt := by
  refine fun s hl => ⟨fun w hw => ?_, fun habove hno => ⟨hl, State.chosenSource_of_not_taken (by simpa) (by simpa)⟩⟩
  have hactive : s.begun.activeSources = w := State.activeSources_eq (by simpa using hw)
  have hchosen (hlevel : s.el = 0 ∨ s.irqAtEl1 = true) : s.begun.chosenSource = s.begun.takenOf w := by
    rw [State.chosenSource_of_taken (by simpa using hlevel), hactive]
  refine ⟨fun hzero => ?none, fun hsome hlevel => ?taken, fun hstd => ⟨?enabled, fun k hlevel hset hlowest => ?lowest⟩⟩
  case none => exact ⟨hl, State.chosenSource_of_no_active (hactive.trans hzero)⟩
  case taken =>
    obtain ⟨k, hk⟩ := Option.ne_none_iff_exists'.mp fun hnone => hsome ((s.begun.takenOf_eq_none w).mp hnone)
    obtain ⟨hset, hnamed⟩ := State.takenOf_eq_some hk
    rw [State.begun_irq] at hnamed
    exact ⟨k, BitVec.lt_of_getLsbD hset, hset, hnamed, step_of_chosenSource hl ((hchosen hlevel).trans hk)⟩
  case enabled => rw [State.irq_of_standard hstd]; rfl
  case lowest =>
    have hk : s.begun.takenOf w = some k :=
      State.takenOf_of_standard (by simpa using hstd) ((lowestBit_eq_some w k).mpr ⟨hset, hlowest⟩)
    rw [← State.irq_ecode_of_standard hstd]
    exact step_of_chosenSource hl ((hchosen hlevel).trans hk)

end Sys2Proof.Machine

/-! SUPPORT. The machine after reset meets the invariant, and a load of a byte that nothing has written is a fault of the model
(70_reset_and_hazards.md). -/

namespace Sys2Proof.Machine

open Sys2Proof

/-! ### The invariant after reset (R30, R42, R500) -/

/-- INTM, the only exception register that reset gives a parameter, is not reserved. -/
theorem State.resetAt_e_of_undefinedE (addr : BitVec 62) (level : BitVec 2) (intm : Word) {i : Reg} (hi : undefinedE i = true) :
    (State.resetAt addr level intm).e[i] = 0 :=
  (getElem_set_of_undefinedE (d := 20) _ intm (by decide) hi).trans (Vector.getElem_replicate _)

theorem State.resetAt_c (addr : BitVec 62) (level : BitVec 2) (intm : Word) (i : Reg) :
    (State.resetAt addr level intm).c[i] = 0 :=
  Vector.getElem_replicate _

theorem State.Inv.resetAt (addr : BitVec 62) (level : BitVec 2) (intm : Word) : (State.resetAt addr level intm).Inv := by
  have hmem : (State.resetAt addr level intm).mem.wf (State.resetAt addr level intm).addrBits = true := rfl
  exact ⟨hmem, fun _ hi => State.resetAt_e_of_undefinedE addr level intm hi, fun i _ => State.resetAt_c addr level intm i⟩

/-- Settles O8: the machine right after reset is `resetAt` at the default parameters. -/
theorem resetMeetsInvariant : Obligations.ResetMeetsInvariant := ⟨State.Inv.resetAt _ _ _, State.Inv.resetAt⟩

/-! ### Loads of bytes that have no value (R69, R501) -/

theorem State.memRead_of_lacksByte {s : State} {addr : Word} {n : Nat} (ha : addr.toNat % n = 0)
    (hp : s.accessOk .load addr n = true) (h : LacksByte s addr n) : s.memRead addr n = .stuck (.noValue addr) := by
  simp [State.memRead, aligned_eq_true ha, hp, State.bytesAt_of_lacksByte h, Attempt.bind]

/-- The fault of the access is that of the instruction: nothing is left to go on with. -/
theorem Accesses.load_lacksByte {i : Instr} {s : State} {addr : Word} {n : Nat} (hi : Accesses i s addr n .load)
    (ha : addr.toNat % n = 0) (hp : s.accessOk .load addr n = true) (h : LacksByte s addr n) :
    exec i s = .fault (.noValue addr) := by
  cases hi with
  | load k hk =>
    rw [hk, State.memRead_of_lacksByte ha hp h]
    rfl

/-- Settles O28: each instruction listed is a load of the tables of `Accesses`, and its access comes first. -/
theorem loadsOfUnwrittenBytesFault : Obligations.LoadsOfUnwrittenBytesFault :=
  ⟨fun p hp s a b imm => (accesses_displacedLoads p hp s a b imm).load_lacksByte,
    fun p hp s a b d sc _ => (accesses_indexedLoads p hp s a b d sc).load_lacksByte⟩

end Sys2Proof.Machine
